-- ==== Sys2Proof/Word.lean ====
section
/-! DEFINITION. The word types of the UT4180: bytes, window words, priority levels (R168, R188, R156). -/

namespace Sys2Proof

/-- A byte of a frame, of a buffer or of one half of a window register. -/
abbrev Byte := BitVec 8

/-- A sixteen-bit register of the window, a sweep count, a stamp (R24, R168). -/
abbrev Word := BitVec 16

/-- A word address of the register window: five address lines (R168). -/
abbrev WindowAddress := BitVec 5

/-- A priority level or a service level, 0 to 7 (R156). -/
abbrev Level := BitVec 3

end Sys2Proof
end

