-- ==== Sys2Proof/Syntax.lean ====
section
/-! DEFINITION. The commands of the UT4180: one constructor of `Instr` per row of spec/opcode_table.json. -/

namespace Sys2Proof

/-- The two lines (section 0.6). -/
inductive Line where
  | a | b
  deriving DecidableEq, Repr

/-- The byte enables of one strobe: the whole word, the low byte or the high byte (R168). -/
inductive Lanes where
  | word | low | high
  deriving DecidableEq, Repr

/-- The two level registers of the Interrupt Arbiter (R159). -/
inductive LevelsRegister where
  | levels0 | levels1
  deriving DecidableEq, Repr

/-- The commands. A completion of a command has no operand: its parameters stand in the taken command (R180, R189).
A write strobe has its lanes and its data, a read strobe its lanes; a line event has its line. -/
inductive Instr where
  /-- DEFINE_STATION, R15. -/
  | defineStation
  /-- DROP_STATION, R16. -/
  | dropStation
  /-- ENABLE_STATION, R17. -/
  | enableStation
  /-- DISABLE_STATION, R18. -/
  | disableStation
  /-- SET_STATION_LIMITS, R20. -/
  | setStationLimits
  /-- LOAD_SWEEP, R27. -/
  | loadSweep
  /-- SET_LINE, R130. -/
  | setLine
  /-- SET_PERIOD, R43. -/
  | setPeriod
  /-- START_LINE, R131. -/
  | startLine
  /-- STOP_LINE, R132. -/
  | stopLine
  /-- ABORT_LINE, R134. -/
  | abortLine
  /-- SWEEP_NOW, R45. -/
  | sweepNow
  /-- POST_REQUEST, R112. -/
  | postRequest
  /-- CANCEL_REQUEST, R120. -/
  | cancelRequest
  /-- FLUSH_REQUESTS, R124. -/
  | flushRequests
  /-- COLLECT_REQUEST, R125. -/
  | collectRequest
  /-- COMMIT_CALL, R91. -/
  | commitCall
  /-- OPEN_VIEW, R173. -/
  | openView
  /-- CLOSE_VIEW, R174. -/
  | closeView
  /-- SET_SUPERVISION, R141. -/
  | setSupervision
  /-- SOFT_RESET, R186. -/
  | softReset
  /-- UNKNOWN_COMMAND, R184: the completion of a taken command whose code is none of the 21. -/
  | unknownCommand
  /-- COMMAND_COLLISION, R181: a CMD write while the command state is BUSY. -/
  | commandCollision (lanes : Lanes) (data : Word)
  /-- EVT_ADVANCE, R152: a write to EVT_ADVANCE. -/
  | evtAdvance (lanes : Lanes) (data : Word)
  /-- INT_CLAIM, R161: a read of INT_CLAIM. -/
  | intClaim (lanes : Lanes)
  /-- INT_EOS, R163: a write to INT_EOS. -/
  | intEos (lanes : Lanes) (data : Word)
  /-- INT_SVC_WRITE, R164. -/
  | intSvcWrite (lanes : Lanes) (data : Word)
  /-- INT_STATUS_READ, R165. -/
  | intStatusRead (lanes : Lanes)
  /-- INT_PEND_WRITE, R166. -/
  | intPendWrite (lanes : Lanes) (data : Word)
  /-- INT_LEVELS_WRITE, R159: a write to INT_LEVELS0 or INT_LEVELS1. -/
  | intLevelsWrite (register : LevelsRegister) (lanes : Lanes) (data : Word)
  /-- SUPV_REFRESH, R142: a write to SUPV_REFRESH. -/
  | supvRefresh (lanes : Lanes) (data : Word)
  /-- DATA_READ, R175. -/
  | dataRead (lanes : Lanes)
  /-- DATA_WRITE, R175. -/
  | dataWrite (lanes : Lanes) (data : Word)
  /-- VIEW_OFFSET_WRITE, R176. -/
  | viewOffsetWrite (lanes : Lanes) (data : Word)
  /-- REGISTER_WRITE, R168: a write to a register with no behaviour of its own. -/
  | registerWrite (address : WindowAddress) (lanes : Lanes) (data : Word)
  /-- PIN_RESET_ASSERT, R187: the RESET pin falls. -/
  | pinResetAssert
  /-- PIN_RESET_RELEASE, R187: the RESET pin returns high. -/
  | pinResetRelease
  /-- READY_AFTER_RESET, R187. -/
  | readyAfterReset
  /-- SYNC_FALLING_EDGE, R44. -/
  | syncFallingEdge (line : Line)
  /-- CHARACTER_RECEIVED, R75, R76: data byte, mark bit, and whether the stop bit was sampled high. -/
  | characterReceived (line : Line) (data : Byte) (mark : Bool) (stop : Bool)
  /-- CALL_FRAME_SENT, R53. -/
  | callFrameSent (line : Line)
  /-- ABORT_TAIL_END, R134. -/
  | abortTailEnd (line : Line)
  /-- ANSWER_TIMEOUT, R54. -/
  | answerTimeout (line : Line)
  /-- GAP_LIMIT_EXPIRY, R59. -/
  | gapLimitExpiry (line : Line)
  /-- DRAIN_SILENCE_END, R60. -/
  | drainSilenceEnd (line : Line)
  /-- GUARD_TIME_EXPIRY, R61. -/
  | guardTimeExpiry (line : Line)
  /-- BREAK, R85: the receive pin has been low for the break limit. -/
  | breakDetected (line : Line)
  /-- CYCLE_TIMER_EXPIRY, R42. -/
  | cycleTimerExpiry (line : Line)
  /-- SUPERVISION_EXPIRY, R143. -/
  | supervisionExpiry
  /-- COMMAND_TAKE, R180: a CMD write while the command state is IDLE or DONE. -/
  | commandTake (lanes : Lanes) (data : Word)
  /-- START_BIT_ARRIVAL, R74: a falling edge on the receive pin. -/
  | startBitArrival (line : Line)
  /-- PIN_RETURNS_HIGH, R83: the receive pin is sampled high after being low. -/
  | pinReturnsHigh (line : Line)
  deriving DecidableEq, Repr

end Sys2Proof
end

