-- ==== Sys2Proof/WellFormed.lean ====
section
/-! DEFINITION. Well-formed commands: a bus strobe stands in the row of the register it reaches (R168, R169). The
meanings are total: an ill-formed command still acts as the register it reaches acts. -/

namespace Sys2Proof

/-- Whether the strobe moves the low byte. -/
def Lanes.includesLow : Lanes → Bool
  | .word => true
  | .low => true
  | .high => false

/-- Whether the strobe moves the high byte. -/
def Lanes.includesHigh : Lanes → Bool
  | .word => true
  | .low => false
  | .high => true

/-- Whether a write at this address with these lanes has a row of its own in the table, so that it is no
REGISTER_WRITE: the triggers CMD, EVT_ADVANCE, INT_EOS and SUPV_REFRESH, the data port, INT_PEND and the level
registers at every lane, and VIEW_OFFSET and INT_SVC where the low byte is written (R164, R168, R169, R176). -/
def hasRowOfItsOwn (address : WindowAddress) (lanes : Lanes) : Bool :=
  address ∈ [0x01#5, 0x0A#5, 0x11#5, 0x15#5, 0x18#5, 0x19#5, 0x1A#5, 0x1C#5]
    || (address ∈ [0x09#5, 0x16#5] && lanes.includesLow)

/-- A command stands in the row that names what it does: INT_SVC_WRITE and VIEW_OFFSET_WRITE write the low byte
(R164, R176), INT_STATUS_READ reads the byte that holds the EOS error flag (R165), REGISTER_WRITE reaches a register
with no behaviour of its own (R168). Every other command is well formed by its type. -/
def Instr.wellFormed : Instr → Bool
  | .intSvcWrite lanes _ => lanes.includesLow
  | .viewOffsetWrite lanes _ => lanes.includesLow
  | .intStatusRead lanes => lanes.includesHigh
  | .registerWrite address lanes _ => !hasRowOfItsOwn address lanes
  | .defineStation | .dropStation | .enableStation | .disableStation | .setStationLimits | .loadSweep | .setLine
  | .setPeriod | .startLine | .stopLine | .abortLine | .sweepNow | .postRequest | .cancelRequest | .flushRequests
  | .collectRequest | .commitCall | .openView | .closeView | .setSupervision | .softReset | .unknownCommand
  | .commandCollision _ _ | .evtAdvance _ _ | .intClaim _ | .intEos _ _ | .intPendWrite _ _ | .intLevelsWrite _ _ _
  | .supvRefresh _ _ | .dataRead _ | .dataWrite _ _ | .pinResetAssert | .pinResetRelease | .readyAfterReset
  | .syncFallingEdge _ | .characterReceived _ _ _ _ | .callFrameSent _ | .abortTailEnd _ | .answerTimeout _
  | .gapLimitExpiry _ | .drainSilenceEnd _ | .guardTimeExpiry _ | .breakDetected _ | .cycleTimerExpiry _
  | .supervisionExpiry | .commandTake _ _ | .startBitArrival _ | .pinReturnsHigh _ => true

end Sys2Proof
end

