-- ==== Sys2Proof/Decode.lean ====
section
/-! DEFINITION. Decoding: no row of the UT4180's table has bits, so no word spells a command. -/

namespace Sys2Proof

/-- The command that a word of the table spells. The table gives bits to no row (spec/opcode_table.json: every
"fields" is empty), so every word spells none. -/
def decodeTableWord (_nbits _w : Nat) : Option Instr := none

end Sys2Proof
end

