-- ==== Sys2Proof/Config.lean ====
section
/-! DEFINITION. The free value of the model: what the UT4180's manual leaves open and a run must still decide. -/

namespace Sys2Proof

/-- FREE VALUE. The n-th choice the manual leaves open: the place at which the next of several occurrences without
an order between them is put (records of line A and line B behind SUPERVISION_EXPIRED, R143; expiries that fall due
at one moment, R61, R82, R140). It has no body: nothing can be proved of its value. DEDUCED: logs 5 and 6. -/
opaque Config.freePlace : Nat → Nat

end Sys2Proof
end

