-- ==== Sys2Proof/Machine/State.lean ====
section
/-! DEFINITION. The state of the UT4180, block by block as section 0.3 lists them, and its value after reset. -/

namespace Sys2Proof.Machine

/-- One value for each line. -/
structure PerLine (α : Type) where
  a : α
  b : α
  deriving DecidableEq, Repr

/-! ### The Station Table (R1) -/

/-- The health of a station record (section 1.2). -/
inductive Health where
  | disabled | probing | online | suspect | offline
  deriving DecidableEq, Repr

/-- Exchange and request result codes (R188). -/
inductive ExchangeResult where
  | good | busy | noAnswer | checkError | framingError | truncated | wrongStation | overlength | aborted | lineFault
  | cancelled | stationDisabled
  deriving DecidableEq, Repr

/-- A station record, field by field (R1). -/
structure Station where
  defined : Bool
  line : Line
  address : Option Byte
  functionCode : Byte
  retryLimit : Nat
  offlineLimit : Nat
  probeInterval : Nat
  health : Health
  failureCount : Nat
  probeCountdown : Nat
  lastOutcome : Option ExchangeResult
  lastStatus : Option Byte
  alertLatched : Bool
  answerSequence : Word
  overtakenCount : Nat
  commitPending : Bool
  publishPending : Bool
  deriving DecidableEq, Repr

/-- The record after reset and after DROP_STATION (R1, last column). -/
def Station.reset : Station :=
  { defined := false, line := .a, address := none, functionCode := 0, retryLimit := 0, offlineLimit := 2,
    probeInterval := 1, health := .disabled, failureCount := 0, probeCountdown := 0, lastOutcome := none,
    lastStatus := none, alertLatched := false, answerSequence := 0, overtakenCount := 0, commitPending := false,
    publishPending := false }

/-! ### The Data Store (R88) -/

/-- A call buffer: length and 32 payload bytes (R88, R89). -/
structure CallBuffer where
  length : Nat
  bytes : Vector Byte 32
  deriving DecidableEq, Repr

/-- A call buffer after reset. -/
def CallBuffer.reset : CallBuffer := { length := 0, bytes := Vector.replicate 32 0 }

/-- A station's call pair: two buffers, one of them live and the other staged (R88 note 1, R90). -/
structure CallPair where
  first : CallBuffer
  second : CallBuffer
  firstIsLive : Bool
  deriving DecidableEq, Repr

/-- A call pair after reset: the first buffer is live (R88 note 1). -/
def CallPair.reset : CallPair := { first := CallBuffer.reset, second := CallBuffer.reset, firstIsLive := true }

/-- A station answer buffer (R88, R97). -/
structure AnswerBuffer where
  valid : Bool
  length : Nat
  status : Byte
  stamp : Word
  sequence : Word
  bytes : Vector Byte 32
  deriving DecidableEq, Repr

/-- A station answer buffer after reset. -/
def AnswerBuffer.reset : AnswerBuffer :=
  { valid := false, length := 0, status := 0, stamp := 0, sequence := 0, bytes := Vector.replicate 32 0 }

/-- A station's answer pair: two buffers, one published and the other spare (R88 note 1, R97). -/
structure AnswerPair where
  first : AnswerBuffer
  second : AnswerBuffer
  firstIsPublished : Bool
  deriving DecidableEq, Repr

/-- An answer pair after reset: the first buffer is published (R88 note 1). -/
def AnswerPair.reset : AnswerPair :=
  { first := AnswerBuffer.reset, second := AnswerBuffer.reset, firstIsPublished := true }

/-- A descriptor answer buffer (R88, R104). -/
structure RequestAnswer where
  valid : Bool
  length : Nat
  status : Byte
  stamp : Word
  bytes : Vector Byte 32
  deriving DecidableEq, Repr

/-- A descriptor answer buffer after reset. -/
def RequestAnswer.reset : RequestAnswer :=
  { valid := false, length := 0, status := 0, stamp := 0, bytes := Vector.replicate 32 0 }

/-- A safe-call buffer (R105). -/
structure SafeCallBuffer where
  functionCode : Byte
  length : Nat
  bytes : Vector Byte 32
  deriving DecidableEq, Repr

/-- A safe-call buffer after reset. -/
def SafeCallBuffer.reset : SafeCallBuffer := { functionCode := 0, length := 0, bytes := Vector.replicate 32 0 }

/-- A sweep build area: a length byte and the 144 bytes of 48 slot entries (R26). -/
structure BuildArea where
  length : Byte
  slotBytes : Vector Byte 144
  deriving DecidableEq, Repr

/-- A build area after reset (R26). -/
def BuildArea.reset : BuildArea := { length := 0, slotBytes := Vector.replicate 144 0 }

/-- The Data Store (R88). -/
structure DataStore where
  calls : Vector CallPair 32
  answers : Vector AnswerPair 32
  requestCalls : Vector CallBuffer 16
  requestAnswers : Vector RequestAnswer 16
  safeCalls : PerLine SafeCallBuffer
  builds : PerLine BuildArea
  deriving DecidableEq, Repr

/-- The Data Store after reset (R88). -/
def DataStore.reset : DataStore :=
  { calls := Vector.replicate 32 CallPair.reset, answers := Vector.replicate 32 AnswerPair.reset,
    requestCalls := Vector.replicate 16 CallBuffer.reset, requestAnswers := Vector.replicate 16 RequestAnswer.reset,
    safeCalls := { a := SafeCallBuffer.reset, b := SafeCallBuffer.reset },
    builds := { a := BuildArea.reset, b := BuildArea.reset } }

/-! ### The Sweep Controllers (R22) -/

/-- A slot of a sweep list: station index, divider, phase (R23). -/
structure Slot where
  station : Fin 32
  divider : Nat
  phase : Nat
  deriving DecidableEq, Repr

/-- The sweep state (R22). -/
inductive SweepState where
  | inactive | sweeping | between
  deriving DecidableEq, Repr

/-- A Sweep Controller's items (R22, R46). -/
structure SweepController where
  live : List Slot
  shadow : Option (List Slot)
  count : Word
  firstSweep : Bool
  state : SweepState
  pointer : Nat
  burst : Nat
  executed : Nat
  skipped : Nat
  normalServed : Bool
  exchangeTaken : Bool
  pendingStart : Bool
  period : Nat
  counter : Nat
  timerRunning : Bool
  mark : Bool
  deriving DecidableEq, Repr

/-- A Sweep Controller after reset (R22, R46). -/
def SweepController.reset : SweepController :=
  { live := [], shadow := none, count := 0, firstSweep := false, state := .inactive, pointer := 1, burst := 0,
    executed := 0, skipped := 0, normalServed := false, exchangeTaken := false, pendingStart := false, period := 100,
    counter := 100, timerRunning := false, mark := false }

/-! ### The Line Engines (R47, R128) -/

/-- The line control state (R128). -/
inductive LineState where
  | stopped | running | stopping | halted
  deriving DecidableEq, Repr

/-- The halt cause (R128). -/
inductive HaltCause where
  | noCause | conflict | lineBreak | supervision
  deriving DecidableEq, Repr

/-- The sweep mode (section 2.5). -/
inductive SweepMode where
  | single | repeating | timed | triggered
  deriving DecidableEq, Repr

/-- The line configuration written by SET_LINE (R128, R130); the cycle period is the Sweep Controller's (R22). -/
structure LineConfig where
  divisor : Nat
  answerTimeout : Nat
  gapLimit : Nat
  guardTime : Nat
  mode : SweepMode
  urgentBurst : Nat
  sweepEndEnable : Bool
  markEnable : Bool
  safeCallEnable : Bool
  deriving DecidableEq, Repr

/-- The configuration after reset (R81, R128). -/
def LineConfig.reset : LineConfig :=
  { divisor := 0, answerTimeout := 22, gapLimit := 1, guardTime := 22, mode := .single, urgentBurst := 1,
    sweepEndEnable := false, markEnable := false, safeCallEnable := false }

/-- The exchange state (R48). -/
inductive ExchangeState where
  | idle | calling | awaiting | receiving | draining | guarding
  deriving DecidableEq, Repr

/-- The kind of an exchange (R50). -/
inductive ExchangeKind where
  | cyclic | probe | request | broadcast | safeCall
  deriving DecidableEq, Repr

/-- The current exchange record (R50). -/
structure Exchange where
  kind : ExchangeKind
  station : Option (Fin 32)
  descriptor : Option (Fin 16)
  address : Byte
  functionCode : Byte
  image : List Byte
  answerMax : Option Nat
  busyRetry : Bool
  allowed : Nat
  made : Nat
  outcome : Option ExchangeResult
  deriving DecidableEq, Repr

/-- The receive buffer (R55); `position` is how many characters of the answer were taken (implied by R56). -/
structure ReceiveBuffer where
  position : Nat
  echo : Byte
  status : Byte
  declared : Byte
  stored : Nat
  payload : Vector Byte 32
  check : Word
  deriving DecidableEq, Repr

/-- The receive buffer with every field 0 (R55). -/
def ReceiveBuffer.reset : ReceiveBuffer :=
  { position := 0, echo := 0, status := 0, declared := 0, stored := 0, payload := Vector.replicate 32 0, check := 0 }

/-- A character on the line: its data byte and its mark bit (R72). -/
structure Character where
  data : Byte
  mark : Bool
  deriving DecidableEq, Repr

/-- What drives the transmit pin: the frame being sent and the microseconds since its first start bit (R47, R72). -/
structure Sending where
  frame : List Character
  elapsed : Nat
  deriving DecidableEq, Repr

/-- A character being received (R74, R75): the microseconds since its falling edge, and the time on that clock of the
last edge of the pin presented, 0 for that falling edge itself. -/
structure Reception where
  elapsed : Nat
  lastEdge : Nat
  deriving DecidableEq, Repr

/-- A falling edge behind one whose middle sample is still to come (R74): the time left to its own sample, and whether
an expiry was already held as it fell, which it does not hold. -/
structure LaterEdge where
  left : Nat
  overdue : Bool
  deriving DecidableEq, Repr

/-- The first falling edge whose middle sample is still to come (R74): the time left to that sample, whether the edge
found AWAITING, the span it stopped, which goes on counting for the case that the sample rejects the edge, whether that
span had run out before it fell, and the edges that have fallen since. -/
structure FallingEdge where
  left : Nat
  awaited : Bool
  span : Option Nat
  overdue : Bool
  later : List LaterEdge
  deriving DecidableEq, Repr

/-- A Line Engine's items (R47, R128). `span` is the time left of the timer of the exchange state, where it runs
(R48, R81); `reception` is the character that a start bit has begun (R74, R75); `lowSpan` is the time left of the break
measurement, where it runs (R85); `edge` is the falling edge whose middle sample is still to come (R74). -/
structure LineEngine where
  control : LineState
  configured : Bool
  haltCause : HaltCause
  abortPending : Bool
  windDown : Bool
  config : LineConfig
  exState : ExchangeState
  exchange : Option Exchange
  buffer : ReceiveBuffer
  exchanges : Word
  failed : Nat
  stray : Nat
  deferredOverruns : Nat
  droppedOverruns : Nat
  driverEnable : Bool
  sending : Option Sending
  span : Option Nat
  reception : Option Reception
  lowSpan : Option Nat
  edge : Option FallingEdge
  deriving DecidableEq, Repr

/-- A Line Engine after reset (R47, R128). -/
def LineEngine.reset : LineEngine :=
  { control := .stopped, configured := false, haltCause := .noCause, abortPending := false, windDown := false,
    config := LineConfig.reset, exState := .idle, exchange := none, buffer := ReceiveBuffer.reset, exchanges := 0,
    failed := 0, stray := 0, deferredOverruns := 0, droppedOverruns := 0, driverEnable := false, sending := none,
    span := none, reception := none, lowSpan := none, edge := none }

/-! ### The Request Pool (R106, R108) -/

/-- The state of a descriptor (R107). -/
inductive DescriptorState where
  | free | opened | queued | active | done
  deriving DecidableEq, Repr

/-- The target of a request: a station or every station of a line (R106). -/
inductive Target where
  | station (index : Fin 32)
  | broadcast (line : Line)
  deriving DecidableEq, Repr

/-- The urgency of a request (R106). -/
inductive Urgency where
  | normal | urgent
  deriving DecidableEq, Repr

/-- A request descriptor (R106); its buffers stand in the Data Store. -/
structure Descriptor where
  state : DescriptorState
  tag : Byte
  target : Option Target
  line : Line
  functionCode : Byte
  urgency : Urgency
  answerMax : Nat
  cancelRequested : Bool
  attemptsUsed : Nat
  result : Option ExchangeResult
  stamp : Option Word
  deriving DecidableEq, Repr

/-- A descriptor after reset (R106). -/
def Descriptor.reset : Descriptor :=
  { state := .free, tag := 0, target := none, line := .a, functionCode := 0, urgency := .normal, answerMax := 0,
    cancelRequested := false, attemptsUsed := 0, result := none, stamp := none }

/-- The Request Pool: 16 descriptors and four FIFOs (R106, R108). -/
structure RequestPool where
  descriptors : Vector Descriptor 16
  urgent : PerLine (List (Fin 16))
  normal : PerLine (List (Fin 16))
  deriving DecidableEq, Repr

/-- The Request Pool after reset (R127). -/
def RequestPool.reset : RequestPool :=
  { descriptors := Vector.replicate 16 Descriptor.reset, urgent := { a := [], b := [] }, normal := { a := [], b := [] } }

/-! ### The Event Queue (R147, R148) -/

/-- The kind of an event record (R148). -/
inductive EventKind where
  | requestDone | stationState | stationAlert | sweepEnd | overrun | lineState | commitTaken | supervisionExpired | lost
  deriving DecidableEq, Repr

/-- An event record; absent fields are none (R148). -/
structure EventRecord where
  kind : EventKind
  line : Option Line
  index : Option Nat
  tag : Option Byte
  code : Option Byte
  aux : Option Byte
  stamp : Word
  deriving DecidableEq, Repr

/-- The Event Queue, head first; its count is the number of records (R147). -/
structure EventQueue where
  records : List EventRecord
  lost : Nat
  deriving DecidableEq, Repr

/-- The Event Queue after reset (R147). -/
def EventQueue.reset : EventQueue := { records := [], lost := 0 }

/-! ### The Interrupt Arbiter (R156) -/

/-- The interrupt sources, in chain order (section 9.2). -/
inductive Source where
  | supervision | lineA | lineB | events | command
  deriving DecidableEq, Repr

/-- The Interrupt Arbiter (R156); the level stack stands top first. -/
structure Arbiter where
  levelSupervision : Level
  levelLineA : Level
  levelLineB : Level
  levelEvents : Level
  levelCommand : Level
  pendingSupervision : Bool
  pendingLineA : Bool
  pendingLineB : Bool
  pendingCommand : Bool
  threshold : Nat
  service : Level
  stack : List Level
  eosError : Bool
  irq : Bool
  deriving DecidableEq, Repr

/-- The Interrupt Arbiter after reset (R156). -/
def Arbiter.reset : Arbiter :=
  { levelSupervision := 0, levelLineA := 0, levelLineB := 0, levelEvents := 0, levelCommand := 0,
    pendingSupervision := false, pendingLineA := false, pendingLineB := false, pendingCommand := false,
    threshold := 1, service := 0, stack := [], eosError := false, irq := false }

/-! ### The Supervision Timer (R141) -/

/-- The state of the Supervision Timer (R141). -/
inductive SupervisionState where
  | off | armed | expired
  deriving DecidableEq, Repr

/-- The Supervision Timer (R141); `subMs` counts the microseconds of the current millisecond (DESIGN CHOICE: log 7). -/
structure SupervisionTimer where
  state : SupervisionState
  period : Nat
  countdown : Nat
  subMs : Nat
  deriving DecidableEq, Repr

/-- The Supervision Timer after reset (R141). -/
def SupervisionTimer.reset : SupervisionTimer := { state := .off, period := 0, countdown := 0, subMs := 0 }

/-! ### The Host Port and the Command Engine (R171) -/

/-- An open view: its kind and its index (R172). -/
inductive OpenView where
  | stationCall (station : Fin 32)
  | stationAnswer (station : Fin 32)
  | stationInfo (station : Fin 32)
  | requestCall (descriptor : Fin 16)
  | requestAnswer (descriptor : Fin 16)
  | sweepBuild (line : Line)
  | safeCall (line : Line)
  | lineInfo (line : Line)
  deriving DecidableEq, Repr

/-- The read-ahead: two bytes of the open view and the offset of the first (R171, R177). -/
structure ReadAhead where
  offset : Byte
  first : Byte
  second : Byte
  deriving DecidableEq, Repr

/-- The Host Port (R171), with READY (R170), the snapshot of an INFO view (R178) and the word last driven onto the
data lines by a read (DESIGN CHOICE: log 8). -/
structure HostPort where
  ready : Bool
  view : Option OpenView
  offset : Byte
  readAhead : Option ReadAhead
  collision : Bool
  snapshot : List Byte
  dataOut : Word
  deriving DecidableEq, Repr

/-- The Host Port after reset, READY 1 (R171, R187). -/
def HostPort.reset : HostPort :=
  { ready := true, view := none, offset := 0, readAhead := none, collision := false, snapshot := [], dataOut := 0 }

/-- The command state (R179). -/
inductive CommandState where
  | idle | busy | done
  deriving DecidableEq, Repr

/-- A taken command: the code word and the four parameter words (R171, R180). -/
structure TakenCommand where
  code : Word
  param0 : Word
  param1 : Word
  param2 : Word
  param3 : Word
  deriving DecidableEq, Repr

/-- The Command Engine (R171, R179). -/
structure CommandEngine where
  state : CommandState
  taken : Option TakenCommand
  cmd : Word
  param0 : Word
  param1 : Word
  param2 : Word
  param3 : Word
  result0 : Word
  result1 : Word
  deriving DecidableEq, Repr

/-- The Command Engine after pin RESET (R171). -/
def CommandEngine.reset : CommandEngine :=
  { state := .idle, taken := none, cmd := 0, param0 := 0, param1 := 0, param2 := 0, param3 := 0, result0 := 0,
    result1 := 0 }

/-- The level of an input pin. -/
inductive PinLevel where
  | low | high
  deriving DecidableEq, Repr

/-- The input pins whose levels the rules read: RESET# (R187) and the receive pins (R74, R85). -/
structure Pins where
  reset : PinLevel
  rx : PerLine PinLevel
  deriving DecidableEq, Repr

/-- The input pins as `State.reset` takes them: all high (DESIGN CHOICE: log 9). -/
def Pins.released : Pins := { reset := .high, rx := { a := .high, b := .high } }

/-! ### The whole part -/

/-- The state of the UT4180. `pending` is the queue of commands, first in first out; `freeCount` counts the free
values used (`Config.freePlace`, DEDUCED and DESIGN CHOICE: logs 5 to 7). -/
structure State where
  pending : List Instr
  pins : Pins
  port : HostPort
  command : CommandEngine
  stations : Vector Station 32
  store : DataStore
  sweep : PerLine SweepController
  engine : PerLine LineEngine
  pool : RequestPool
  events : EventQueue
  arbiter : Arbiter
  supervision : SupervisionTimer
  freeCount : Nat
  deriving DecidableEq, Repr

/-- The part right after pin RESET, with READY 1 (R187) and nothing waiting: every block at the value its rule gives
(R1, R22, R47, R88, R106, R128, R141, R147, R156, R171). Logs 7, 8 and 9 name the values that are the model's. -/
def State.reset : State :=
  { pending := [], pins := Pins.released, port := HostPort.reset, command := CommandEngine.reset,
    stations := Vector.replicate 32 Station.reset, store := DataStore.reset,
    sweep := { a := SweepController.reset, b := SweepController.reset },
    engine := { a := LineEngine.reset, b := LineEngine.reset }, pool := RequestPool.reset, events := EventQueue.reset,
    arbiter := Arbiter.reset, supervision := SupervisionTimer.reset, freeCount := 0 }

/-- No command of the UT4180 stops the part: its faults are line states, result codes and flags (R138, R165, R184),
so there is no fault to name. -/
inductive Fault where
  deriving DecidableEq, Repr

/-- Why a command has no outcome. -/
inductive Refusal where
  /-- Raised by `exec`'s arm of a command that has no meaning yet, with its mnemonic. Safe: the model stops where the
  part goes on. No arm raises it. -/
  | notModelled (mnemonic : String)
  deriving DecidableEq, Repr

end Sys2Proof.Machine
end

