-- ==== Sys2Proof/Machine/Operands.lean ====
section
/-! DEFINITION. Operand forms: byte lanes, parameter fields and their ranges (R168, R188, R189), the codes of named
values (R188), and the access to one line, one station, one descriptor. -/

namespace Sys2Proof.Machine

/-! ### Bytes, words and lanes (R168, R188) -/

/-- Bits 7 to 0 of a word. -/
def loByte (w : Word) : Byte := w.extractLsb' 0 8

/-- Bits 15 to 8 of a word. -/
def hiByte (w : Word) : Byte := w.extractLsb' 8 8

/-- A word from its low and its high byte: the less significant stands low (R188). -/
def makeWord (lo hi : Byte) : Word := hi ++ lo

/-- A strobe moves the bytes whose enables are asserted and leaves the other byte as it is (R168). -/
def mergeLanes (lanes : Lanes) (old new : Word) : Word :=
  match lanes with
  | .word => new
  | .low => makeWord (loByte new) (hiByte old)
  | .high => makeWord (loByte old) (hiByte new)

/-- The byte a byte access moves: the one in the enabled lane (R176); of a word, the low one. -/
def laneByte (lanes : Lanes) (data : Word) : Byte :=
  match lanes with
  | .word => loByte data
  | .low => loByte data
  | .high => hiByte data

/-- Yes and no are 01h and 00h (R188). -/
def yesNo (b : Bool) : Byte := if b then 0x01 else 0x00

/-- A number shown in one byte. -/
def byteOf (n : Nat) : Byte := BitVec.ofNat 8 n

/-- A number shown in one word. -/
def wordOf (n : Nat) : Word := BitVec.ofNat 16 n

/-- A saturating counter: at its largest value it stays there (section 0.6). -/
def saturatingSucc (largest n : Nat) : Nat := if n < largest then n + 1 else n

/-! ### One line's value -/

/-- The value of line `x`. -/
def PerLine.get {α : Type} (p : PerLine α) (x : Line) : α :=
  match x with
  | .a => p.a
  | .b => p.b

/-- The pair with the value of line `x` replaced. -/
def PerLine.set {α : Type} (p : PerLine α) (x : Line) (v : α) : PerLine α :=
  match x with
  | .a => { p with a := v }
  | .b => { p with b := v }

/-! ### Parameter fields (R189) -/

/-- A field of `width` bits of a parameter word, from bit `start` up. -/
def fieldOf (w : Word) (start width : Nat) : Nat := (w.extractLsb' start width).toNat

/-- The position, from 1, of the first parameter that is out of range: the first `false` (R184). -/
def firstOutOfRange : List Bool → Option Nat
  | [] => none
  | inRange :: rest => if inRange then (firstOutOfRange rest).map (· + 1) else some 1

/-- A line parameter is 00h for A and 01h for B; read after its range check. -/
def lineOfNat (n : Nat) : Line := if n = 0 then .a else .b

/-- A station index parameter; read after its range check. -/
def stationOfNat (n : Nat) : Fin 32 := Fin.ofNat 32 n

/-- A descriptor index parameter; read after its range check. -/
def descriptorOfNat (n : Nat) : Fin 16 := Fin.ofNat 16 n

/-- The sweep mode field, every value of which is in range (R188, R189). -/
def modeOfNat : Nat → SweepMode
  | 0 => .single
  | 1 => .repeating
  | 2 => .timed
  | _ => .triggered

/-- The urgency parameter, 00h NORMAL and 01h URGENT; read after its range check. -/
def urgencyOfNat (n : Nat) : Urgency := if n = 1 then .urgent else .normal

/-- The target parameter: 00h to 1Fh a station, 40h BROADCAST A, 41h BROADCAST B (R188); none out of range. -/
def targetOf (b : Byte) : Option Target :=
  if b.toNat < 32 then some (.station (stationOfNat b.toNat))
  else if b = 0x40 then some (.broadcast .a)
  else if b = 0x41 then some (.broadcast .b)
  else none

/-! ### Codes of named values (R188) -/

/-- Line: 00h A, 01h B. -/
def lineCode : Line → Byte
  | .a => 0x00
  | .b => 0x01

/-- Command state: 0 IDLE, 1 BUSY, 2 DONE. -/
def commandStateCode : CommandState → Nat
  | .idle => 0
  | .busy => 1
  | .done => 2

/-- Line control state: 0 STOPPED, 1 RUNNING, 2 STOPPING, 3 HALTED. -/
def lineStateCode : LineState → Nat
  | .stopped => 0
  | .running => 1
  | .stopping => 2
  | .halted => 3

/-- Supervision state: 0 OFF, 1 ARMED, 2 EXPIRED. -/
def supervisionCode : SupervisionState → Nat
  | .off => 0
  | .armed => 1
  | .expired => 2

/-- Interrupt source id. -/
def sourceCode : Source → Byte
  | .supervision => 0x01
  | .lineA => 0x02
  | .lineB => 0x03
  | .events => 0x04
  | .command => 0x05

/-- Health. -/
def healthCode : Health → Byte
  | .disabled => 0x00
  | .probing => 0x01
  | .online => 0x02
  | .suspect => 0x03
  | .offline => 0x04

/-- Exchange and request results. -/
def exchangeResultCode : ExchangeResult → Byte
  | .good => 0x20
  | .busy => 0x21
  | .noAnswer => 0x22
  | .checkError => 0x23
  | .framingError => 0x24
  | .truncated => 0x25
  | .wrongStation => 0x26
  | .overlength => 0x27
  | .aborted => 0x28
  | .lineFault => 0x29
  | .cancelled => 0x2A
  | .stationDisabled => 0x2B

/-- Event kinds. -/
def eventKindCode : EventKind → Byte
  | .requestDone => 0x01
  | .stationState => 0x02
  | .stationAlert => 0x03
  | .sweepEnd => 0x04
  | .overrun => 0x05
  | .lineState => 0x06
  | .commitTaken => 0x07
  | .supervisionExpired => 0x08
  | .lost => 0x09

/-- Halt cause, and the aux of LINE_STATE. -/
def haltCauseCode : HaltCause → Byte
  | .noCause => 0x00
  | .conflict => 0x01
  | .lineBreak => 0x02
  | .supervision => 0x03

/-- Sweep mode. -/
def modeCode : SweepMode → Byte
  | .single => 0x00
  | .repeating => 0x01
  | .timed => 0x02
  | .triggered => 0x03

/-- Sweep state. -/
def sweepStateCode : SweepState → Byte
  | .inactive => 0x00
  | .sweeping => 0x01
  | .between => 0x02

/-- Exchange state. -/
def exchangeStateCode : ExchangeState → Byte
  | .idle => 0x00
  | .calling => 0x01
  | .awaiting => 0x02
  | .receiving => 0x03
  | .draining => 0x04
  | .guarding => 0x05

/-- Exchange record kind. -/
def exchangeKindCode : ExchangeKind → Byte
  | .cyclic => 0x01
  | .probe => 0x02
  | .request => 0x03
  | .broadcast => 0x04
  | .safeCall => 0x05

/-- Descriptor state. -/
def descriptorStateCode : DescriptorState → Byte
  | .free => 0x00
  | .opened => 0x01
  | .queued => 0x02
  | .active => 0x03
  | .done => 0x04

/-- Urgency. -/
def urgencyCode : Urgency → Byte
  | .normal => 0x00
  | .urgent => 0x01

/-- Request target. -/
def targetCode : Target → Byte
  | .station i => byteOf i.val
  | .broadcast .a => 0x40
  | .broadcast .b => 0x41

/-- A command result code (R184). -/
inductive CommandResult where
  | ok | okDeferred | badParam | wrongState | inUse | notDefined | pending | notConfigured | expired
  | duplicateAddress | unknownCommand
  deriving DecidableEq, Repr

/-- Command results. -/
def commandResultCode : CommandResult → Nat
  | .ok => 0x00
  | .okDeferred => 0x01
  | .badParam => 0x02
  | .wrongState => 0x03
  | .inUse => 0x04
  | .notDefined => 0x05
  | .pending => 0x06
  | .notConfigured => 0x07
  | .expired => 0x08
  | .duplicateAddress => 0x09
  | .unknownCommand => 0x0A

/-- The codes of the 21 commands (R189). -/
def commandCodes : List Byte :=
  [0x10, 0x11, 0x12, 0x13, 0x14, 0x20, 0x21, 0x22, 0x23, 0x24, 0x25, 0x26, 0x30, 0x31, 0x32, 0x33, 0x40, 0x41, 0x42,
    0x50, 0x5F]

/-- The code of SOFT_RESET. -/
def softResetCode : Byte := 0x5F

/-! ### Access to one line, one station, one descriptor -/

/-- The Line Engine of line `x`. -/
def State.engineAt (s : State) (x : Line) : LineEngine := s.engine.get x

/-- The Sweep Controller of line `x`. -/
def State.sweepAt (s : State) (x : Line) : SweepController := s.sweep.get x

/-- The station record at index `i`. -/
def State.stationAt (s : State) (i : Fin 32) : Station := s.stations[i]

/-- The call pair of station `i`. -/
def State.callPairAt (s : State) (i : Fin 32) : CallPair := s.store.calls[i]

/-- The answer pair of station `i`. -/
def State.answerPairAt (s : State) (i : Fin 32) : AnswerPair := s.store.answers[i]

/-- Descriptor `d`. -/
def State.descriptorAt (s : State) (d : Fin 16) : Descriptor := s.pool.descriptors[d]

/-- The call buffer of descriptor `d`. -/
def State.requestCallAt (s : State) (d : Fin 16) : CallBuffer := s.store.requestCalls[d]

/-- The answer buffer of descriptor `d`. -/
def State.requestAnswerAt (s : State) (d : Fin 16) : RequestAnswer := s.store.requestAnswers[d]

/-- The live half of a call pair (R90). -/
def CallPair.live (p : CallPair) : CallBuffer := if p.firstIsLive then p.first else p.second

/-- The staged half of a call pair (R90). -/
def CallPair.staged (p : CallPair) : CallBuffer := if p.firstIsLive then p.second else p.first

/-- The pair with its staged half replaced (R90). -/
def CallPair.withStaged (p : CallPair) (c : CallBuffer) : CallPair :=
  if p.firstIsLive then { p with second := c } else { p with first := c }

/-- A swap exchanges the roles of the two buffers; no byte is copied (R92). -/
def CallPair.swap (p : CallPair) : CallPair := { p with firstIsLive := !p.firstIsLive }

/-- The published half of an answer pair (R97). -/
def AnswerPair.published (p : AnswerPair) : AnswerBuffer := if p.firstIsPublished then p.first else p.second

/-- The spare half of an answer pair (R97). -/
def AnswerPair.spare (p : AnswerPair) : AnswerBuffer := if p.firstIsPublished then p.second else p.first

/-- The pair with its spare half replaced (R98). -/
def AnswerPair.withSpare (p : AnswerPair) (b : AnswerBuffer) : AnswerPair :=
  if p.firstIsPublished then { p with second := b } else { p with first := b }

/-- The roles exchanged, and the new published half given its sequence (R98, R100). -/
def AnswerPair.publish (p : AnswerPair) (sequence : Word) : AnswerPair :=
  if p.firstIsPublished then { p with second := { p.second with sequence := sequence }, firstIsPublished := false }
  else { p with first := { p.first with sequence := sequence }, firstIsPublished := true }

/-- The first `n` bytes taken from `source`, the others kept (R89, R98; DEDUCED: log 24). -/
def overwriteBytes (old source : Vector Byte 32) (n : Nat) : Vector Byte 32 :=
  Vector.ofFn fun i => if i.val < n then source[i] else old[i]

/-- One byte replaced; a position outside the buffer replaces none. -/
def setByte {n : Nat} (v : Vector Byte n) (k : Nat) (b : Byte) : Vector Byte n :=
  if h : k < n then v.set k b h else v

end Sys2Proof.Machine
end

