-- ==== Sys2Proof/Machine/Flags.lean ====
section
/-! DEFINITION. Flags and verdicts: the interrupt sources and IRQ (R158 to R161), the status bits of an answer (R79),
the class of an outcome (R5), the check of a frame (R80). -/

namespace Sys2Proof.Machine

/-! ### Interrupt sources (sections 9.2 to 9.5) -/

/-- The sources in chain order (section 9.2). -/
def chain : List Source := [.supervision, .lineA, .lineB, .events, .command]

/-- The level of a source (R159). -/
def Arbiter.levelOf (a : Arbiter) : Source → Level
  | .supervision => a.levelSupervision
  | .lineA => a.levelLineA
  | .lineB => a.levelLineB
  | .events => a.levelEvents
  | .command => a.levelCommand

/-- The condition of a source: a pending flag, or for EVENTS the count at or above the threshold (R157, R158). -/
def Arbiter.conditionOf (a : Arbiter) (count : Nat) : Source → Bool
  | .supervision => a.pendingSupervision
  | .lineA => a.pendingLineA
  | .lineB => a.pendingLineB
  | .events => decide (a.threshold ≤ count)
  | .command => a.pendingCommand

/-- A source is requesting while its condition holds and its level is above 0 (R159). -/
def Arbiter.requesting (a : Arbiter) (count : Nat) (src : Source) : Bool :=
  a.conditionOf count src && decide (0 < a.levelOf src)

/-- IRQ: some source requests with a level above the service level (R160). -/
def Arbiter.irqDecision (a : Arbiter) (count : Nat) : Bool :=
  chain.any fun src => a.requesting count src && decide (a.service < a.levelOf src)

/-- The winner of a claim: the highest level among the requesting sources, the earliest in chain order among
several (R161). -/
def Arbiter.winner (a : Arbiter) (count : Nat) : Option Source :=
  chain.foldl
    (fun best src =>
      if a.requesting count src then
        match best with
        | none => some src
        | some b => if a.levelOf b < a.levelOf src then some src else some b
      else best)
    none

/-- The arbiter with the pending flag of an edge source set to `v`; EVENTS has none (R157, R158). -/
def Arbiter.withFlag (a : Arbiter) (src : Source) (v : Bool) : Arbiter :=
  match src with
  | .supervision => { a with pendingSupervision := v }
  | .lineA => { a with pendingLineA := v }
  | .lineB => { a with pendingLineB := v }
  | .events => a
  | .command => { a with pendingCommand := v }

/-- The interrupt source of a line (R157). -/
def lineSource : Line → Source
  | .a => .lineA
  | .b => .lineB

/-! ### Outcomes (R5, R79) -/

/-- The class of a reported outcome (R5). -/
inductive OutcomeClass where
  | success | failure | neutral
  deriving DecidableEq, Repr

/-- R5. CANCELLED and STATION_DISABLED are descriptor results and reach no station; they move nothing. -/
def classOf : ExchangeResult → OutcomeClass
  | .good | .busy => .success
  | .noAnswer | .checkError | .framingError | .truncated | .wrongStation | .overlength => .failure
  | .aborted | .lineFault | .cancelled | .stationDisabled => .neutral

/-- Status bit 0: busy (R79). -/
def busyBit (status : Byte) : Bool := status.getLsbD 0

/-- Status bit 1: alert (R13, R79). -/
def alertBit (status : Byte) : Bool := status.getLsbD 1

/-! ### The check (R80) -/

/-- One message bit: the register shifts towards its top and takes 1021h where its top bit and the message bit
differ. -/
def checkBit (register : Word) (bit : Bool) : Word :=
  if register.msb != bit then (register <<< 1) ^^^ 0x1021#16 else register <<< 1

/-- One byte, bit 7 first. -/
def checkByte (register : Word) (b : Byte) : Word :=
  [7, 6, 5, 4, 3, 2, 1, 0].foldl (fun r k => checkBit r (b.getLsbD k)) register

/-- The check over the covered bytes, from FFFFh (R80). -/
def frameCheck (covered : List Byte) : Word := covered.foldl checkByte 0xFFFF#16

/-- The verdict on a complete frame: CHECK_ERROR, else BUSY or GOOD by the busy bit (R58). -/
def frameVerdict (b : ReceiveBuffer) : ExchangeResult :=
  if frameCheck (b.echo :: b.status :: b.declared :: b.payload.toList.take b.declared.toNat) ≠ b.check then .checkError
  else if busyBit b.status then .busy
  else .good

end Sys2Proof.Machine
end

