-- ==== Sys2Proof/Machine/Frames.lean ====
section
/-! DEFINITION. Characters, frames and spans of line time (chapter 4). -/

namespace Sys2Proof.Machine

/-- The bit time of a line in microseconds: n + 1 (R73). -/
def LineConfig.bitTime (c : LineConfig) : Nat := c.divisor + 1

/-- A span of `t` bit times in microseconds (R81 note 2). -/
def LineConfig.spanOf (c : LineConfig) (t : Nat) : Nat := t * c.bitTime

/-- Half a bit time, from a falling edge to its middle sample, in whole microseconds rounded up (R74; DESIGN CHOICE:
log 11). -/
def LineConfig.halfBit (c : LineConfig) : Nat := (c.bitTime + 1) / 2

/-- The exchange state as it stood before a falling edge: the edge's start bit takes AWAITING to RECEIVING (R54, R74).
-/
def LineEngine.stateBefore (g : LineEngine) (e : FallingEdge) : ExchangeState :=
  if e.awaited ∧ g.exState = .receiving then .awaiting else g.exState

/-- A character is being received: a start bit has begun it (R74, R75). -/
def LineEngine.receiving (g : LineEngine) : Bool := g.reception.isSome

/-- An edge of the pin is presented inside the character being received. -/
def Reception.edged (r : Reception) : Reception := { r with lastEdge := r.elapsed }

/-- The engine as if its edges had not occurred: no character is being received, and the span that the first stopped
runs in the state it found (R74). -/
def LineEngine.rejected (g : LineEngine) (e : FallingEdge) : LineEngine :=
  { g with edge := none, reception := none, exState := g.stateBefore e, span := e.span }

/-- The break limit: 22 bit times (R81). -/
def breakLimit : Nat := 22

/-- A character is 11 bits (R72). -/
def characterBits : Nat := 11

/-- The levels of a character on the transmit pin, in order: start bit, d0 to d7, mark bit, stop bit (R72). -/
def Character.levels (c : Character) : List Bool :=
  false :: ([0, 1, 2, 3, 4, 5, 6, 7].map fun k => c.data.getLsbD k) ++ [c.mark, true]

/-- The bytes of a call frame that the check covers: A, F, N and the payload (R77, R80). -/
def Exchange.covered (e : Exchange) : List Byte :=
  e.address :: e.functionCode :: byteOf e.image.length :: e.image

/-- The call frame of an exchange: the address character with mark bit 1, then F, N, the payload, C1 and C2 with
mark bit 0 (R52, R77, R80). -/
def Exchange.callFrame (e : Exchange) : List Character :=
  { data := e.address, mark := true }
    :: ((e.functionCode :: byteOf e.image.length :: e.image)
        ++ [hiByte (frameCheck e.covered), loByte (frameCheck e.covered)]).map fun b => { data := b, mark := false }

/-- The level of the transmit pin: the bit being sent, or high while nothing is sent (R47, R72, R86; DEDUCED: log 35).
-/
def LineEngine.transmitLevel (g : LineEngine) : Bool :=
  match g.sending with
  | none => true
  | some tx => (tx.frame.flatMap Character.levels).getD (tx.elapsed / g.config.bitTime) true

/-- How many bit times the pin has been low at the end of a character whose stop bit is low: the low bits that run up
to that end, the start bit among them where every data bit and the mark bit are 0 (R72, R85; DEDUCED: log 12). -/
def lowRunAtEnd (data : Byte) (mark : Bool) : Nat :=
  ((({ data := data, mark := mark } : Character).levels.dropLast).reverse.takeWhile fun level => !level).length + 1

/-- The levels a character is sampled at, in order: its start bit, data bits, mark bit and stop bit (R75). -/
def sampledLevels (data : Byte) (mark stop : Bool) : List Bool :=
  ({ data := data, mark := mark } : Character).levels.dropLast ++ [stop]

/-- Where the edges presented say how a character's end leaves the pin and the break measurement: no bit was sampled at
another level than theirs behind the last of them, bit k being sampled k + 0.5 bit times behind the falling edge. Else
an edge behind it was not presented, and the bits say it (R75, R85; DEDUCED: log 10). -/
def LineEngine.edgesTell (g : LineEngine) (pin : PinLevel) (data : Byte) (mark stop : Bool) : Bool :=
  match g.reception with
  | none => false
  | some r =>
    (sampledLevels data mark stop).zipIdx.all fun (high, k) =>
      high == decide (pin = .high) || decide ((2 * k + 1) * g.config.bitTime ≤ 2 * r.lastEdge)

/-- The receiver of a line is on while the line is RUNNING or STOPPING, and on a STOPPED line while a safe call is in
flight; it is blanked while driver enable is asserted (R87, R129, R145). -/
def LineEngine.receiverOn (g : LineEngine) : Bool :=
  !g.driverEnable
    && match g.control with
      | .running => true
      | .stopping => true
      | .stopped => g.windDown
      | .halted => false

end Sys2Proof.Machine
end

