-- ==== Sys2Proof/Machine/Ops.lean ====
section
/-! DEFINITION. The named operations on the state: one line, one record, one descriptor, the Event Queue, the
Interrupt Arbiter, the Command Engine's completion, the Data Store's hand-overs. -/

namespace Sys2Proof.Machine

/-! ### Updates of one part of the state -/

/-- The Line Engine of line `x` changed by `f`. -/
def State.modEngine (s : State) (x : Line) (f : LineEngine → LineEngine) : State :=
  { s with engine := s.engine.set x (f (s.engineAt x)) }

/-- The Sweep Controller of line `x` changed by `f`. -/
def State.modSweep (s : State) (x : Line) (f : SweepController → SweepController) : State :=
  { s with sweep := s.sweep.set x (f (s.sweepAt x)) }

/-- The station record at `i` replaced. -/
def State.setStation (s : State) (i : Fin 32) (r : Station) : State :=
  { s with stations := s.stations.set i r }

/-- The call pair of station `i` replaced. -/
def State.setCallPair (s : State) (i : Fin 32) (p : CallPair) : State :=
  { s with store := { s.store with calls := s.store.calls.set i p } }

/-- The answer pair of station `i` replaced. -/
def State.setAnswerPair (s : State) (i : Fin 32) (p : AnswerPair) : State :=
  { s with store := { s.store with answers := s.store.answers.set i p } }

/-- Descriptor `d` replaced. -/
def State.setDescriptor (s : State) (d : Fin 16) (r : Descriptor) : State :=
  { s with pool := { s.pool with descriptors := s.pool.descriptors.set d r } }

/-- The call buffer of descriptor `d` replaced. -/
def State.setRequestCall (s : State) (d : Fin 16) (c : CallBuffer) : State :=
  { s with store := { s.store with requestCalls := s.store.requestCalls.set d c } }

/-- The answer buffer of descriptor `d` replaced. -/
def State.setRequestAnswer (s : State) (d : Fin 16) (r : RequestAnswer) : State :=
  { s with store := { s.store with requestAnswers := s.store.requestAnswers.set d r } }

/-- The safe-call buffer of line `x` replaced. -/
def State.setSafeCall (s : State) (x : Line) (c : SafeCallBuffer) : State :=
  { s with store := { s.store with safeCalls := s.store.safeCalls.set x c } }

/-- The sweep build area of line `x` replaced. -/
def State.setBuild (s : State) (x : Line) (b : BuildArea) : State :=
  { s with store := { s.store with builds := s.store.builds.set x b } }

/-- The FIFO of a line and urgency (R108). -/
def State.fifo (s : State) (x : Line) (u : Urgency) : List (Fin 16) :=
  match u with
  | .urgent => s.pool.urgent.get x
  | .normal => s.pool.normal.get x

/-- The FIFO of a line and urgency replaced. -/
def State.setFifo (s : State) (x : Line) (u : Urgency) (q : List (Fin 16)) : State :=
  match u with
  | .urgent => { s with pool := { s.pool with urgent := s.pool.urgent.set x q } }
  | .normal => { s with pool := { s.pool with normal := s.pool.normal.set x q } }

/-- The level of the receive pin of line `x` as last sampled or told. -/
def State.setRx (s : State) (x : Line) (l : PinLevel) : State :=
  { s with pins := { s.pins with rx := s.pins.rx.set x l } }

/-- The next free value, and the state that has used it. -/
def State.takeFree (s : State) : Nat × State := (Config.freePlace s.freeCount, { s with freeCount := s.freeCount + 1 })

/-! ### The Interrupt Arbiter and the Event Queue -/

/-- IRQ re-decided (R160): done at each change of one of its inputs. -/
def settleIrq (s : State) : State :=
  { s with arbiter := { s.arbiter with irq := s.arbiter.irqDecision s.events.records.length } }

/-- The arbiter replaced, and IRQ re-decided. -/
def setArbiter (s : State) (a : Arbiter) : State := settleIrq { s with arbiter := a }

/-- An occurrence sets the pending flag of an edge source (R157). -/
def setPending (src : Source) (s : State) : State := setArbiter s (s.arbiter.withFlag src true)

/-- The Event Queue holds at most 32 records (R147). -/
def eventCapacity : Nat := 32

/-- A record arrives: stored at the tail below 32 records, else lost and counted (R149, R150). -/
def EventQueue.arrive (q : EventQueue) (r : EventRecord) : EventQueue :=
  if q.records.length < eventCapacity then { q with records := q.records ++ [r] }
  else { q with lost := saturatingSucc 255 q.lost }

/-- A record posted, and the count handed to the Arbiter (R149, R155). -/
def post (r : EventRecord) (s : State) : State := settleIrq { s with events := s.events.arrive r }

/-- Several records posted one after another. -/
def postAll : List EventRecord → State → State
  | [], s => s
  | r :: rest, s => postAll rest (post r s)

/-! ### Event records (R148) -/

/-- STATION_STATE (R9): code the new health, aux the old. -/
def stationStateRecord (s : State) (i : Fin 32) (x : Line) (new old : Health) : EventRecord :=
  { kind := .stationState, line := some x, index := some i.val, tag := none, code := some (healthCode new),
    aux := some (healthCode old), stamp := (s.sweepAt x).count }

/-- STATION_ALERT (R13): code the status byte. -/
def stationAlertRecord (s : State) (i : Fin 32) (x : Line) (status : Byte) : EventRecord :=
  { kind := .stationAlert, line := some x, index := some i.val, tag := none, code := some status, aux := none,
    stamp := (s.sweepAt x).count }

/-- SWEEP_END (R32): code the executed tally, aux the skipped tally. -/
def sweepEndRecord (s : State) (x : Line) : EventRecord :=
  { kind := .sweepEnd, line := some x, index := none, tag := none, code := some (byteOf (s.sweepAt x).executed),
    aux := some (byteOf (s.sweepAt x).skipped), stamp := (s.sweepAt x).count }

/-- COMMIT_TAKEN (R95): code the length of the new live call data, aux 01h EXCHANGE_START or 02h LINE_ENTRY. -/
def commitTakenRecord (s : State) (i : Fin 32) (aux : Byte) : EventRecord :=
  { kind := .commitTaken, line := some (s.stationAt i).line, index := some i.val, tag := none,
    code := some (byteOf (s.callPairAt i).staged.length), aux := some aux,
    stamp := (s.sweepAt (s.stationAt i).line).count }

/-- REQUEST_DONE (R119): code the descriptor's result, aux the attempts used. -/
def requestDoneRecord (d : Fin 16) (r : Descriptor) (result : ExchangeResult) (stamp : Word) : EventRecord :=
  { kind := .requestDone, line := some r.line, index := some d.val, tag := some r.tag,
    code := some (exchangeResultCode result), aux := some (byteOf r.attemptsUsed), stamp := stamp }

/-- The kinds of cycle start (section 2.6), the code of an OVERRUN (R40). -/
inductive CycleStartKind where
  | timer | sync | sweepNow
  deriving DecidableEq, Repr

/-- OVERRUN code: 01h TIMER, 02h SYNC, 03h SWEEP_NOW (R188). -/
def cycleStartCode : CycleStartKind → Byte
  | .timer => 0x01
  | .sync => 0x02
  | .sweepNow => 0x03

/-- OVERRUN (R40): aux 01h DEFERRED or 02h DROPPED. -/
def overrunRecord (s : State) (x : Line) (kind : CycleStartKind) (aux : Byte) : EventRecord :=
  { kind := .overrun, line := some x, index := none, tag := none, code := some (cycleStartCode kind), aux := some aux,
    stamp := (s.sweepAt x).count }

/-- LINE_STATE (R137): code 00h STOPPED or 03h HALTED, aux the halt cause. -/
def lineStateRecord (s : State) (x : Line) (code : Byte) (cause : HaltCause) : EventRecord :=
  { kind := .lineState, line := some x, index := none, tag := none, code := some code,
    aux := some (haltCauseCode cause), stamp := (s.sweepAt x).count }

/-- SUPERVISION_EXPIRED (R143): code the period. -/
def supervisionExpiredRecord (period : Nat) : EventRecord :=
  { kind := .supervisionExpired, line := none, index := none, tag := none, code := some (byteOf period), aux := none,
    stamp := 0 }

/-- LOST (R153): aux the lost count. -/
def lostRecord (lost : Nat) : EventRecord :=
  { kind := .lost, line := none, index := none, tag := none, code := none, aux := some (byteOf lost), stamp := 0 }

/-! ### The completion of a command (R182) -/

/-- What a command's checks and effects give: the state, the result code and the detail for RESULT1. -/
structure Completion where
  state : State
  result : CommandResult
  detail : Nat

/-- A refused command changes no state (R182, R184). -/
def refuse (s : State) (result : CommandResult) (detail : Nat) : Completion := { state := s, result := result, detail := detail }

/-- Steps 3 to 5 of a completion: RESULT0 and RESULT1, DONE, and the COMMAND pending flag (R182); the taken command
stays (DESIGN CHOICE: log 19). -/
def finish (c : Completion) : State :=
  setPending .command
    { c.state with command := { c.state.command with state := .done, result0 := wordOf (commandResultCode c.result),
                                                     result1 := wordOf c.detail } }

/-- The taken command, while one with this code is in progress (R179, R180). -/
def State.inProgress (s : State) (code : Byte) : Option TakenCommand :=
  match s.command.state, s.command.taken with
  | .busy, some t => if loByte t.code = code then some t else none
  | _, _ => none

/-- The completion of the command with this code: its checks and effects, then the results (R182). While no such
command is in progress no completion arises, and nothing changes (DEDUCED: log 3). -/
def completeCommand (code : Byte) (body : TakenCommand → State → Completion) (s : State) : State :=
  match s.inProgress code with
  | some t => finish (body t s)
  | none => s

/-! ### The Data Store's hand-overs (chapter 5) -/

/-- A pending commit is taken: the roles are exchanged and commit pending clears, without the record (R93, R94). -/
def swapCommit (i : Fin 32) (s : State) : State :=
  (s.setCallPair i (s.callPairAt i).swap).setStation i { s.stationAt i with commitPending := false }

/-- The exchange start takes a pending commit and posts COMMIT_TAKEN with aux EXCHANGE_START (R50 step 2, R93, R95). -/
def takeCommit (i : Fin 32) (s : State) : State :=
  if (s.stationAt i).commitPending then post (commitTakenRecord s i 0x01) (swapCommit i s) else s

/-- A publication: the roles are exchanged, the answer sequence increases and the published half takes it (R98,
R100). -/
def publishAnswer (i : Fin 32) (s : State) : State :=
  let sequence := (s.stationAt i).answerSequence + 1
  (s.setAnswerPair i ((s.answerPairAt i).publish sequence)).setStation i
    { s.stationAt i with answerSequence := sequence, publishPending := false }

/-- The spare half after a GOOD hand-over (R98 step 1). -/
def storedAnswer (old : AnswerBuffer) (b : ReceiveBuffer) (stamp : Word) : AnswerBuffer :=
  { old with valid := true, length := b.declared.toNat, status := b.status, stamp := stamp,
             bytes := overwriteBytes old.bytes b.payload b.declared.toNat }

/-- A GOOD cyclic answer is taken whole: stored in the spare half, then published, or held while a STATION_ANSWER
view on the station is open (R98, R99). -/
def storeAnswer (i : Fin 32) (b : ReceiveBuffer) (stamp : Word) (s : State) : State :=
  let stored := s.setAnswerPair i ((s.answerPairAt i).withSpare (storedAnswer (s.answerPairAt i).spare b stamp))
  if s.port.view = some (.stationAnswer i) then
    if (s.stationAt i).publishPending then
      stored.setStation i
        { s.stationAt i with overtakenCount := saturatingSucc 255 (s.stationAt i).overtakenCount }
    else stored.setStation i { s.stationAt i with publishPending := true }
  else publishAnswer i stored

/-- The open view closes by command: a held answer that is pending is published; the view is none, its offset 0 and
the read-ahead empty (R100, R174). -/
def closeOpenView (s : State) : State :=
  let s1 :=
    match s.port.view with
    | some (.stationAnswer i) => if (s.stationAt i).publishPending then publishAnswer i s else s
    | _ => s
  { s1 with port := { s1.port with view := none, offset := 0, readAhead := none, snapshot := [] } }

/-! ### The Station Table's report (R14) -/

/-- The health machine (R6, R7, R8). -/
def healthAfter (r : Station) (outcome : ExchangeResult) : Station :=
  match classOf outcome with
  | .success =>
    match r.health with
    | .probing | .suspect | .offline => { r with health := .online, failureCount := 0 }
    | .online | .disabled => r
  | .failure =>
    match r.health with
    | .online => { r with health := .suspect, failureCount := 1 }
    | .probing | .suspect =>
      if r.failureCount + 1 = r.offlineLimit then
        { r with health := .offline, failureCount := r.failureCount + 1, probeCountdown := r.probeInterval }
      else { r with failureCount := r.failureCount + 1 }
    | .offline => { r with probeCountdown := r.probeInterval }
    | .disabled => r
  | .neutral => r

/-- The record after the whole report: last outcome and last status (R12), the health machine, the alert latch
(R13). -/
def recordAfterReport (r : Station) (outcome : ExchangeResult) (status : Byte) : Station :=
  let noted :=
    { r with lastOutcome := some outcome,
             lastStatus := if classOf outcome = .success then some status else r.lastStatus }
  let moved := healthAfter noted outcome
  if classOf outcome = .success then { moved with alertLatched := alertBit status } else moved

/-- The records of a report: STATION_STATE where health changed, then STATION_ALERT where the latch was set (R9,
R13, R14). -/
def reportRecords (s : State) (i : Fin 32) (outcome : ExchangeResult) (status : Byte) : List EventRecord :=
  let r := s.stationAt i
  let after := recordAfterReport r outcome status
  (if after.health ≠ r.health then [stationStateRecord s i r.line after.health r.health] else [])
    ++ if classOf outcome = .success && alertBit status && !r.alertLatched then [stationAlertRecord s i r.line status]
       else []

/-- The Station Table takes a report whole (R14). -/
def stationReport (i : Fin 32) (outcome : ExchangeResult) (status : Byte) (s : State) : State :=
  postAll (reportRecords s i outcome status) (s.setStation i (recordAfterReport (s.stationAt i) outcome status))

/-! ### The Request Pool's completions (R104, R117 to R119) -/

/-- A descriptor becomes DONE and REQUEST_DONE is posted; the stamp is the line's current sweep count (R117, R118,
R119). -/
def finishDescriptor (d : Fin 16) (result : ExchangeResult) (attempts : Nat) (answer : RequestAnswer) (s : State) :
    State :=
  let r := s.descriptorAt d
  let stamp := (s.sweepAt r.line).count
  let done : Descriptor :=
    { r with state := .done, result := some result, attemptsUsed := attempts, stamp := some stamp }
  post (requestDoneRecord d done result stamp)
    ((s.setDescriptor d done).setRequestAnswer d { answer with stamp := stamp })

/-- A QUEUED descriptor completes without an exchange; it has left its FIFO (R118). -/
def completeQueued (result : ExchangeResult) (d : Fin 16) (s : State) : State :=
  finishDescriptor d result 0 (s.requestAnswerAt d) s

/-- Several queued descriptors complete, in order. -/
def completeAllQueued (result : ExchangeResult) : List (Fin 16) → State → State
  | [], s => s
  | d :: rest, s => completeAllQueued result rest (completeQueued result d s)

/-- The descriptor's answer at the end of its exchange (R70, R104): the stamp is set with the descriptor's. -/
def requestAnswerAfter (old : RequestAnswer) (kind : ExchangeKind) (result : ExchangeResult) (b : ReceiveBuffer) :
    RequestAnswer :=
  match kind, result with
  | .request, .good =>
    { old with valid := true, length := b.declared.toNat, status := b.status,
               bytes := overwriteBytes old.bytes b.payload b.declared.toNat }
  | .request, .busy => { old with valid := true, length := 0, status := b.status }
  | _, _ => { old with valid := false, length := 0, status := 0 }

/-- The Request Pool completes an ACTIVE descriptor at the end of its exchange: CANCELLED under a late cancel, else
the outcome (R70, R117). -/
def completeActive (d : Fin 16) (kind : ExchangeKind) (outcome : ExchangeResult) (attempts : Nat) (b : ReceiveBuffer)
    (s : State) : State :=
  let result := if (s.descriptorAt d).cancelRequested then .cancelled else outcome
  finishDescriptor d result attempts (requestAnswerAfter (s.requestAnswerAt d) kind result b) s

end Sys2Proof.Machine
end

