-- ==== Sys2Proof/Machine/Exchange.lean ====
section
/-! DEFINITION. The exchange (chapter 3) and the entry into STOPPED or HALTED (R136): accepting work, calling,
handing over, counting, entering. What follows an exchange's end stands in Machine/Cycle.lean. -/

namespace Sys2Proof.Machine

/-! ### Silence, guard time and calling -/

/-- A silence of `t` bit times begins to be timed where the receive pin is high and no character is being received;
else it waits for the pin's return or the character's end (R60, R83, R84). -/
def silenceSpan (s : State) (x : Line) (t : Nat) : Option Nat :=
  if s.pins.rx.get x = .high ∧ (s.engineAt x).receiving = false then some ((s.engineAt x).config.spanOf t) else none

/-- GUARD is entered, or its guard time restarted, with a fresh guard time (R61, R84). -/
def enterGuard (x : Line) (s : State) : State :=
  s.modEngine x fun g => { g with exState := .guarding, span := silenceSpan s x g.config.guardTime }

/-- DRAINING is entered with a recorded outcome and its silence (R56, R57, R60). -/
def enterDraining (x : Line) (outcome : ExchangeResult) (s : State) : State :=
  s.modEngine x fun g =>
    { g with exState := .draining, span := silenceSpan s x g.config.gapLimit,
             exchange := g.exchange.map fun e => { e with outcome := some outcome } }

/-- The attempt's outcome is recorded and GUARD entered with a fresh guard time (R53, R54, R58, R59). -/
def closeAttempt (x : Line) (outcome : ExchangeResult) (s : State) : State :=
  enterGuard x
    (s.modEngine x fun g => { g with exchange := g.exchange.map fun e => { e with outcome := some outcome } })

/-- An attempt begins in CALLING: attempts made increases, driver enable is asserted, the frame is sent from its
first start bit, the receiver is blanked and a character being received is discarded (R52, R86, R87). The receive pin
keeps the level the last edge presented left it at (DESIGN CHOICE: log 38). -/
def LineEngine.call (g : LineEngine) (e : Exchange) : LineEngine :=
  { g with exState := .calling, exchange := some { e with made := e.made + 1, outcome := none }, driverEnable := true,
           sending := some { frame := e.callFrame, elapsed := 0 }, span := none, reception := none, lowSpan := none,
           edge := none }

/-- The attempt of the exchange in flight begins (R52). -/
def beginCalling (x : Line) (s : State) : State :=
  match (s.engineAt x).exchange with
  | some e => s.modEngine x fun g => g.call e
  | none => s

/-! ### Starting an exchange (R49 to R51) -/

/-- The call image taken from a buffer: its length and that many bytes (R50, R89). -/
def callImage (length : Nat) (bytes : Vector Byte 32) : List Byte := bytes.toList.take length

/-- Attempts allowed, fixed at the start (R51). -/
def attemptsAllowed (kind : ExchangeKind) (r : Station) : Nat :=
  match kind with
  | .cyclic => r.retryLimit + 1
  | .request => if r.health = .offline then 1 else r.retryLimit + 1
  | .probe | .broadcast | .safeCall => 1

/-- The record of a cyclic exchange or a probe (R50); the commit has been taken. -/
def slotExchange (s : State) (i : Fin 32) (kind : ExchangeKind) : Exchange :=
  { kind := kind, station := some i, descriptor := none, address := (s.stationAt i).address.getD 0,
    functionCode := (s.stationAt i).functionCode,
    image := callImage (s.callPairAt i).live.length (s.callPairAt i).live.bytes, answerMax := some 32,
    busyRetry := false, allowed := attemptsAllowed kind (s.stationAt i), made := 0, outcome := none }

/-- The record of a request to a station, or of a broadcast request to address 63 (R50, R115, R116). -/
def requestExchange (s : State) (d : Fin 16) : Exchange :=
  let r := s.descriptorAt d
  let image := callImage (s.requestCallAt d).length (s.requestCallAt d).bytes
  match r.target with
  | some (.station i) =>
    { kind := .request, station := some i, descriptor := some d, address := (s.stationAt i).address.getD 0,
      functionCode := r.functionCode, image := image, answerMax := some r.answerMax, busyRetry := true,
      allowed := attemptsAllowed .request (s.stationAt i), made := 0, outcome := none }
  | _ =>
    { kind := .broadcast, station := none, descriptor := some d, address := 63, functionCode := r.functionCode,
      image := image, answerMax := none, busyRetry := false, allowed := 1, made := 0, outcome := none }

/-- The record of a safe call, from the line's safe-call buffer (R50, R105, R144). -/
def safeCallExchange (s : State) (x : Line) : Exchange :=
  let b := s.store.safeCalls.get x
  { kind := .safeCall, station := none, descriptor := none, address := 63, functionCode := b.functionCode,
    image := callImage b.length b.bytes, answerMax := none, busyRetry := false, allowed := 1, made := 0,
    outcome := none }

/-- Work is accepted: from IDLE its first CALLING begins at once, in GUARD it waits for the guard time's end (R49). -/
def acceptExchange (x : Line) (e : Exchange) (s : State) : State :=
  s.modEngine x fun g => if g.exState = .idle then g.call e else { g with exchange := some e }

/-- A slot's exchange starts: a pending commit is taken first (R50). -/
def startSlot (x : Line) (i : Fin 32) (kind : ExchangeKind) (s : State) : State :=
  acceptExchange x (slotExchange (takeCommit i s) i kind) (takeCommit i s)

/-- A request's exchange starts (R109 step 3). -/
def startRequest (x : Line) (d : Fin 16) (s : State) : State := acceptExchange x (requestExchange s d) s

/-- A safe call is accepted (R49, R144, R145): in GUARD its record waits, and its image is taken when the guard time
expires (`beginWaiting`; DEDUCED: log 17). -/
def startSafeCall (x : Line) (s : State) : State := acceptExchange x (safeCallExchange s x) s

/-- The first attempt of an exchange that waited in GUARD begins; a safe call starts here and takes its image from the
safe-call buffer as it now stands (R61, R105, R144; DEDUCED: log 17). -/
def beginWaiting (x : Line) (e : Exchange) (s : State) : State :=
  match e.kind with
  | .safeCall => s.modEngine x fun g => g.call (safeCallExchange s x)
  | .cyclic | .probe | .request | .broadcast => s.modEngine x fun g => g.call e

/-! ### The end of an exchange (R68 steps 1 to 4) -/

/-- The outcomes the failed exchanges counter counts (R71). -/
def countsAsFailed (outcome : ExchangeResult) : Bool := classOf outcome = .failure

/-- Steps 3 and 4: the counters, the record absent, the exchange state IDLE; driver enable is released and any timer
abandoned (R65, R66, R68, R71). -/
def LineEngine.ended (g : LineEngine) (outcome : ExchangeResult) : LineEngine :=
  { g with exchanges := g.exchanges + 1,
           failed := if countsAsFailed outcome then saturatingSucc 65535 g.failed else g.failed,
           exchange := none, exState := .idle, span := none, driverEnable := false, sending := none }

/-- Step 1: the report of an exchange with a station (R69). -/
def handReport (outcome : ExchangeResult) (e : Exchange) (status : Byte) (s : State) : State :=
  match e.station with
  | some i => stationReport i outcome status s
  | none => s

/-- Step 2: a GOOD answer of a slot to the Data Store, the result of a request to the Request Pool (R69, R70). -/
def handAnswer (outcome : ExchangeResult) (e : Exchange) (b : ReceiveBuffer) (stamp : Word) (s : State) : State :=
  match e.kind, e.station, e.descriptor with
  | .cyclic, some i, _ => if outcome = .good then storeAnswer i b stamp s else s
  | .probe, some i, _ => if outcome = .good then storeAnswer i b stamp s else s
  | .request, _, some d => completeActive d .request outcome e.made b s
  | .broadcast, _, some d => completeActive d .broadcast outcome e.made b s
  | _, _, _ => s

/-- The hand-over of an exchange that ends with this outcome: steps 1 to 4 of R68. -/
def handOver (x : Line) (outcome : ExchangeResult) (e : Exchange) (s : State) : State :=
  let b := (s.engineAt x).buffer
  (handAnswer outcome e b (s.sweepAt x).count (handReport outcome e b.status s)).modEngine x fun g => g.ended outcome

/-! ### Entry into STOPPED or HALTED (R136) -/

/-- Where an entry leads: STOPPED, or HALTED with its cause. -/
inductive EntryTarget where
  | stopped
  | halted (cause : HaltCause)
  deriving DecidableEq, Repr

/-- Step 1 and the receiver's end: the control state, IDLE, guard time abandoned, abort pending and wind-down no
(R136); for HALTED the cause of step 4. A character being received is dropped, and the receive pin keeps the level the
last edge presented left it at (R87; DESIGN CHOICE: log 38). -/
def LineEngine.entered (g : LineEngine) (target : EntryTarget) : LineEngine :=
  { g with control := match target with
             | .stopped => .stopped
             | .halted _ => .halted,
           haltCause := match target with
             | .stopped => g.haltCause
             | .halted cause => cause,
           exState := .idle, exchange := none, span := none, reception := none, lowSpan := none, edge := none,
           driverEnable := false, sending := none, abortPending := false, windDown := false }

/-- Step 2: the sweep is abandoned, the pending start cleared, the cycle timer stopped with its counter held, MARK
low (R33, R46, R136). -/
def SweepController.abandoned (c : SweepController) : SweepController :=
  { c with state := .inactive, pendingStart := false, pointer := 1, burst := 0, executed := 0, skipped := 0,
           normalServed := false, exchangeTaken := false, timerRunning := false, mark := false }

/-- The stations of a line with a pending commit, in ascending order (R94). -/
def pendingCommits (s : State) (x : Line) : List (Fin 32) :=
  (List.finRange 32).filter fun i => (s.stationAt i).commitPending && decide ((s.stationAt i).line = x)

/-- The swaps of several pending commits, one after another. -/
def swapCommits : List (Fin 32) → State → State
  | [], s => s
  | i :: rest, s => swapCommits rest (swapCommit i s)

/-- The records of an entry, in order: COMMIT_TAKEN with aux LINE_ENTRY in ascending station order, then LINE_STATE
(R94, R95, R137). -/
def entryRecords (x : Line) (target : EntryTarget) (s : State) : List EventRecord :=
  (pendingCommits s x).map (fun i => commitTakenRecord s i 0x02)
    ++ [match target with
        | .stopped => lineStateRecord s x 0x00 .noCause
        | .halted cause => lineStateRecord s x 0x03 cause]

/-- The entry less its records: steps 1 to 4 of R136. -/
def enterQuietly (x : Line) (target : EntryTarget) (s : State) : State :=
  let lowered := (s.modEngine x fun g => g.entered target).modSweep x SweepController.abandoned
  let swapped := swapCommits (pendingCommits s x) lowered
  match target with
  | .stopped => swapped
  | .halted _ => setPending (lineSource x) swapped

/-- Entry into STOPPED or HALTED (R136); it follows the hand-over of any exchange that ended there. From STOPPED the
steps 2 and 3 find nothing to change (DEDUCED: log 26). The line's pending flag and LINE_STATE stand at the end of the
one step, so a claim behind it finds both (R167; DESIGN CHOICE: log 40). -/
def enterLine (x : Line) (target : EntryTarget) (s : State) : State :=
  postAll (entryRecords x target s) (enterQuietly x target s)

/-- The exchange in flight ends at once with this outcome and is handed over; the line then enters (R65, R66,
R134, R139). -/
def endInto (x : Line) (outcome : ExchangeResult) (target : EntryTarget) (s : State) : State :=
  match (s.engineAt x).exchange with
  | some e => enterLine x target (handOver x outcome e s)
  | none => enterLine x target s

/-- A CONFLICT or BREAK fault takes effect (R139). -/
def lineFault (x : Line) (cause : HaltCause) (s : State) : State := endInto x .lineFault (.halted cause) s

/-- The character being sent has ended while abort pending is yes: driver enable is released, the exchange ends ABORTED
and the line enters STOPPED (R65, R134); under a SOFT_RESET in progress nothing is handed over or posted (R186). -/
def endTail (x : Line) (s : State) : State :=
  if s.port.ready then endInto x .aborted .stopped s
  else (s.modEngine x fun g => g.entered .stopped).modSweep x SweepController.abandoned

/-- SOFT_RESET ends a line's activity as an abort does, without hand-over, record, commit or interrupt (R65, R136,
R186): in CALLING the character being sent completes, else the line is at rest at once (DEDUCED: log 13). In that tail
the line is STOPPING, also a STOPPED line whose safe call is being sent (R135, R145; DESIGN CHOICE: log 39). -/
def endQuietly (x : Line) (s : State) : State :=
  if (s.engineAt x).exState = .calling then s.modEngine x fun g => { g with abortPending := true, control := .stopping }
  else if (s.engineAt x).control = .halted then s
  else (s.modEngine x fun g => g.entered .stopped).modSweep x SweepController.abandoned

end Sys2Proof.Machine
end

