-- ==== Sys2Proof/Machine/Cycle.lean ====
section
/-! DEFINITION. The Sweep Controller (chapter 2): slots, sweep start and end, picks, cycle starts; and how a line goes
on at the end of an exchange (R68 step 5) and at the guard time's expiry (R61). -/

namespace Sys2Proof.Machine

/-- One piece of work a pick gives (R31, R49): a slot's station, called or probed, or a descriptor. -/
inductive Work where
  | slot (station : Fin 32) (kind : ExchangeKind)
  | request (descriptor : Fin 16)
  deriving DecidableEq, Repr

/-! ### Slots (R10, R23, R31) -/

/-- A slot is due in the sweep whose count modulo the divider equals the phase (R23). -/
def slotDue (slot : Slot) (count : Word) : Bool := decide (count.toNat % slot.divider = slot.phase)

/-- What a due slot does, by its station's health (R10). -/
inductive SlotAction where
  | skip
  | countDown
  | probe
  | call
  deriving DecidableEq, Repr

/-- R10: OFFLINE probes at countdown 0 and counts down above it, DISABLED is skipped, the others are called. -/
def slotAction (r : Station) : SlotAction :=
  match r.health with
  | .disabled => .skip
  | .offline => if r.probeCountdown = 0 then .probe else .countDown
  | .probing | .online | .suspect => .call

/-- The slot pointer moves past a slot. -/
def SweepController.passSlot (c : SweepController) : SweepController := { c with pointer := c.pointer + 1 }

/-- A skipped slot: past it, one more in the skipped tally (R31). -/
def SweepController.skipSlot (c : SweepController) : SweepController :=
  { c with pointer := c.pointer + 1, skipped := c.skipped + 1 }

/-- A slot executed: past it, one more in the executed tally, the burst count 0 (R31). -/
def SweepController.runSlot (c : SweepController) : SweepController :=
  { c with pointer := c.pointer + 1, executed := c.executed + 1, burst := 0 }

/-- The slots still to be examined, in list order: the first one that is due and called or probed is the work; past
the last the pointer is 49 (R22 note 2, R23, R31; DEDUCED: log 18). -/
def scanSlots (x : Line) : List Slot → State → State × Option Work
  | [], s => (s.modSweep x fun c => { c with pointer := 49 }, none)
  | slot :: rest, s =>
    if slotDue slot (s.sweepAt x).count then
      let r := s.stationAt slot.station
      match slotAction r with
      | .skip => scanSlots x rest (s.modSweep x SweepController.skipSlot)
      | .countDown =>
        scanSlots x rest
          ((s.modSweep x SweepController.skipSlot).setStation slot.station
            { r with probeCountdown := r.probeCountdown - 1 })
      | .probe =>
        ((s.modSweep x SweepController.runSlot).setStation slot.station { r with probeCountdown := r.probeInterval },
          some (.slot slot.station .probe))
      | .call => (s.modSweep x SweepController.runSlot, some (.slot slot.station .cyclic))
    else scanSlots x rest (s.modSweep x SweepController.passSlot)

/-! ### Requests handed over (R109) -/

/-- The head of a FIFO leaves it and becomes ACTIVE; an empty FIFO hands nothing (R109). -/
def takeHead (x : Line) (u : Urgency) (s : State) : State × Option Work :=
  match s.fifo x u with
  | [] => (s, none)
  | d :: rest =>
    ((s.setFifo x u rest).setDescriptor d { s.descriptorAt d with state := .active }, some (.request d))

/-! ### Sweep start and sweep end (R24, R30, R32) -/

/-- The sweep start's steps on the Sweep Controller (R30): the count as R24, the shadow taken over, the pointer, the
tallies and the markers, the pending start, MARK, SWEEPING. -/
def SweepController.started (c : SweepController) (markEnable : Bool) : SweepController :=
  { c with count := if c.firstSweep then c.count else c.count + 1, firstSweep := false, live := c.shadow.getD c.live,
           shadow := none, pointer := 1, burst := 0, executed := 0, skipped := 0, normalServed := false,
           exchangeTaken := false, pendingStart := false, mark := if markEnable then !c.mark else c.mark,
           state := .sweeping }

/-- A sweep starts (R30). -/
def startSweep (x : Line) (s : State) : State :=
  s.modSweep x fun c => c.started (s.engineAt x).config.markEnable

/-- A sweep ends: SWEEP_END if enabled, then BETWEEN (R32). -/
def endSweep (x : Line) (s : State) : State :=
  State.modSweep (if (s.engineAt x).config.sweepEndEnable then post (sweepEndRecord s x) s else s) x
    fun c => { c with state := .between }

/-- A pick inside a sweep (R31): an urgent request with burst room, but at the sweep start's own first pick; else the
next slot to execute; none where the sweep has no more. -/
def sweepPick (x : Line) (first : Bool) (s : State) : State × Option Work :=
  let c := s.sweepAt x
  if !first && !(s.fifo x .urgent).isEmpty && decide (c.burst < (s.engineAt x).config.urgentBurst) then
    takeHead x .urgent (s.modSweep x fun c => { c with burst := c.burst + 1 })
  else scanSlots x (c.live.drop (c.pointer - 1)) s

/-! ### The sweep-end service (R34 to R38) -/

/-- The wait of an idle REPEAT line: GUARD with a fresh guard time and no exchange (R36). -/
def idleWait (x : Line) (s : State) : State := enterGuard x s

/-- A normal request is taken; in REPEAT mode the service takes one only (R35);
the marker moves in REPEAT mode alone (DEDUCED: log 18). -/
def takeNormal (x : Line) (s : State) : State × Option Work :=
  takeHead x .normal
    (if (s.engineAt x).config.mode = .repeating then s.modSweep x fun c => { c with normalServed := true } else s)

/-- The service after a sweep that has carried no exchange and has no start pending: the urgent head, the normal
head, in REPEAT mode the wait, else nothing (R34 to R38). -/
def serviceAfterEmptySweep (x : Line) (s : State) : State × Option Work :=
  if !(s.fifo x .urgent).isEmpty then takeHead x .urgent s
  else if !(s.fifo x .normal).isEmpty then takeNormal x s
  else if (s.engineAt x).config.mode = .repeating then (idleWait x s, none)
  else (s, none)

/-- A sweep starts and makes its first pick; a sweep with nothing to execute ends at it (R30 to R32). -/
def freshSweep (x : Line) (s : State) : State × Option Work :=
  match sweepPick x true (startSweep x s) with
  | (s', some w) => (s', some w)
  | (s', none) => serviceAfterEmptySweep x (endSweep x s')

/-- A pick of the sweep-end service, and any pick between sweeps (R34 to R38, R41): the pending start first (DEDUCED:
log 29); then urgent, then normal, of which REPEAT takes one; then in REPEAT the next sweep, or the wait where nothing
was exchanged (R36). An urgent request posted during the one normal request's exchange is taken before the next sweep:
R35's step 1 is read before its step 3 (DESIGN CHOICE: log 37). -/
def service (x : Line) (s : State) : State × Option Work :=
  let c := s.sweepAt x
  let repeating := (s.engineAt x).config.mode = .repeating
  if c.pendingStart then freshSweep x s
  else if !(s.fifo x .urgent).isEmpty then takeHead x .urgent s
  else if !(s.fifo x .normal).isEmpty && !(decide repeating && c.normalServed) then takeNormal x s
  else if repeating then (if c.exchangeTaken then freshSweep x s else (idleWait x s, none))
  else (s, none)

/-- A pick (R31, R34 to R38): inside a sweep, and at its end the service; between sweeps the service. -/
def pick (x : Line) (s : State) : State × Option Work :=
  match (s.sweepAt x).state with
  | .sweeping =>
    match sweepPick x false s with
    | (s', some w) => (s', some w)
    | (s', none) => service x (endSweep x s')
  | .between => service x s
  | .inactive => (s, none)

/-- The work goes to the Line Engine, whose exchange starts at once; in REPEAT mode the exchange-taken marker is set
(R36, R49). -/
def giveWork (x : Line) (picked : State × Option Work) : State :=
  match picked.2 with
  | none => picked.1
  | some w =>
    let marked :=
      if (picked.1.engineAt x).config.mode = .repeating then
        picked.1.modSweep x fun c => { c with exchangeTaken := true }
      else picked.1
    match w with
    | .slot i kind => startSlot x i kind marked
    | .request d => startRequest x d marked

/-- A pick is made and its work given (R31, R49). -/
def pickAndGive (x : Line) (s : State) : State := giveWork x (pick x s)

/-- A sweep starts, makes its first pick and gives its work (R30). -/
def sweepAndGive (x : Line) (s : State) : State := giveWork x (freshSweep x s)

/-! ### Cycle starts (R39, R40) -/

/-- What a cycle start did (R39, R45). -/
inductive CycleStartEffect where
  | discarded | started | held | deferred | dropped
  deriving DecidableEq, Repr

/-- How a cycle start is acted on, by the line and the Sweep Controller at its arrival (R39); a line is free where no
exchange is in flight (DEDUCED: log 31). -/
def cycleStartEffect (g : LineEngine) (c : SweepController) : CycleStartEffect :=
  if g.control ≠ .running ∨ g.windDown then .discarded
  else
    match c.state with
    | .inactive => .discarded
    | .between => if c.pendingStart then .dropped else if g.exchange.isSome then .held else .started
    | .sweeping => if c.pendingStart then .dropped else .deferred

/-- A cycle start arrives (R39, R40). -/
def cycleStart (x : Line) (kind : CycleStartKind) (s : State) : State :=
  match cycleStartEffect (s.engineAt x) (s.sweepAt x) with
  | .discarded => s
  | .started => sweepAndGive x s
  | .held => s.modSweep x fun c => { c with pendingStart := true }
  | .deferred =>
    post (overrunRecord s x kind 0x01)
      ((s.modSweep x fun c => { c with pendingStart := true }).modEngine x fun g =>
        { g with deferredOverruns := saturatingSucc 255 g.deferredOverruns })
  | .dropped =>
    post (overrunRecord s x kind 0x02)
      (s.modEngine x fun g => { g with droppedOverruns := saturatingSucc 255 g.droppedOverruns })

/-! ### How a line goes on (R63, R64, R68 step 5) -/

/-- Retries are suppressed while the line is STOPPING, the descriptor has cancel requested, or the Supervision Timer
is EXPIRED (R64). -/
def retrySuppressed (s : State) (x : Line) (e : Exchange) : Bool :=
  decide ((s.engineAt x).control = .stopping)
    || (match e.descriptor with
        | some d => (s.descriptorAt d).cancelRequested
        | none => false)
    || decide (s.supervision.state = .expired)

/-- An outcome that is retried: a failure, or BUSY where busy retry is yes (R63). -/
def retriable (e : Exchange) (outcome : ExchangeResult) : Bool :=
  decide (classOf outcome = .failure) || (decide (outcome = .busy) && e.busyRetry)

/-- Whether another attempt is made (R63). -/
def retryDue (s : State) (x : Line) (e : Exchange) (outcome : ExchangeResult) : Bool :=
  retriable e outcome && decide (e.made < e.allowed) && !retrySuppressed s x e

/-- Step 5 of an exchange's end by its own guard expiry: the wind-down goes on, a running line picks, a stopping line
enters STOPPED (R68, R144, R145). -/
def goOn (x : Line) (kind : ExchangeKind) (s : State) : State :=
  let g := s.engineAt x
  if g.windDown then
    if g.config.safeCallEnable && decide (kind ≠ .safeCall) then startSafeCall x s
    else enterLine x (.halted .supervision) s
  else
    match g.control with
    | .running => pickAndGive x s
    | .stopping => enterLine x .stopped s
    | .stopped | .halted => s

/-- The guard time expires (R61): a retry is decided, a waiting first attempt calls, or the exchange state becomes
IDLE, after which an idle REPEAT line starts its next sweep (R36; DEDUCED: log 30). A first attempt waits while the
record has no outcome (DEDUCED: log 33). -/
def guardExpiry (x : Line) (s : State) : State :=
  let g := s.engineAt x
  match g.exchange with
  | some e =>
    match e.outcome with
    | none => beginWaiting x e s
    | some outcome => if retryDue s x e outcome then beginCalling x s else goOn x e.kind (handOver x outcome e s)
  | none =>
    let rested := s.modEngine x fun g => { g with exState := .idle, span := none }
    if g.config.mode = .repeating ∧ g.control = .running ∧ g.windDown = false ∧ (s.sweepAt x).state = .between then
      sweepAndGive x rested
    else rested

end Sys2Proof.Machine
end

