-- ==== Sys2Proof/Machine/Views.lean ====
section
/-! DEFINITION. The bytes of the views (R172, R178, R190, R192) and the read face of the register window (R168, R170,
R188). -/

namespace Sys2Proof.Machine

/-- A word in two bytes, the less significant first (R188). -/
def wordBytes (w : Word) : List Byte := [loByte w, hiByte w]

/-- The bytes of a STATION_CALL or REQ_CALL view: 33 (R190). -/
def callBufferBytes (c : CallBuffer) : List Byte := byteOf c.length :: c.bytes.toList

/-- The bytes of a SAFE_CALL view: 34 (R190). -/
def safeCallBytes (c : SafeCallBuffer) : List Byte := c.functionCode :: byteOf c.length :: c.bytes.toList

/-- The bytes of a SWEEP_BUILD view: 145 (R190). -/
def buildBytes (b : BuildArea) : List Byte := b.length :: b.slotBytes.toList

/-- The bytes of a STATION_ANSWER view: 39 (R190). -/
def answerBytes (b : AnswerBuffer) : List Byte :=
  yesNo b.valid :: byteOf b.length :: b.status :: (wordBytes b.stamp ++ wordBytes b.sequence ++ b.bytes.toList)

/-- The bytes of a REQ_ANSWER view: 48 (R190); an absent target, result or stamp, which no DONE descriptor has, shows
00h (DESIGN CHOICE: log 25). -/
def requestAnswerBytes (r : Descriptor) (a : RequestAnswer) : List Byte :=
  [descriptorStateCode r.state, r.tag, (r.target.map targetCode).getD 0, lineCode r.line, r.functionCode,
      urgencyCode r.urgency, byteOf r.answerMax, byteOf r.attemptsUsed, (r.result.map exchangeResultCode).getD 0]
    ++ wordBytes (r.stamp.getD 0) ++ [yesNo a.valid, byteOf a.length, a.status] ++ wordBytes a.stamp ++ a.bytes.toList

/-- The STATION_INFO snapshot: 20 bytes (R178, R188, R190). -/
def stationInfoBytes (i : Fin 32) (r : Station) : List Byte :=
  [byteOf i.val, yesNo r.defined, lineCode r.line, r.address.getD 0x00, r.functionCode, byteOf r.retryLimit,
      byteOf r.offlineLimit, byteOf r.probeInterval, healthCode r.health, byteOf r.failureCount,
      byteOf r.probeCountdown, (r.lastOutcome.map exchangeResultCode).getD 0xFF, yesNo r.lastStatus.isSome,
      r.lastStatus.getD 0x00, yesNo r.alertLatched]
    ++ wordBytes r.answerSequence
    ++ [byteOf r.overtakenCount, yesNo r.commitPending, yesNo r.publishPending]

/-- The flags byte of LINE_INFO: bit 0 SWEEP_END, bit 1 MARK, bit 2 safe call (R190). -/
def configFlags (c : LineConfig) : Byte :=
  (if c.sweepEndEnable then 0x01#8 else 0) ||| (if c.markEnable then 0x02#8 else 0)
    ||| if c.safeCallEnable then 0x04#8 else 0

/-- The LINE_INFO snapshot: 40 bytes (R178, R188, R190, R192). -/
def lineInfoBytes (s : State) (x : Line) : List Byte :=
  let g := s.engineAt x
  let c := s.sweepAt x
  [lineCode x, byteOf (lineStateCode g.control), yesNo g.configured, haltCauseCode g.haltCause, yesNo g.abortPending,
      yesNo g.windDown, byteOf g.config.divisor, modeCode g.config.mode]
    ++ wordBytes (wordOf g.config.answerTimeout)
    ++ [byteOf g.config.gapLimit, byteOf g.config.guardTime, byteOf g.config.urgentBurst, configFlags g.config]
    ++ wordBytes c.count
    ++ [sweepStateCode c.state, yesNo c.pendingStart, byteOf c.live.length, yesNo c.shadow.isSome,
      byteOf (c.shadow.getD []).length, exchangeStateCode g.exState]
    ++ wordBytes (wordOf c.period) ++ wordBytes (wordOf c.counter)
    ++ (match g.exchange with
        | some e =>
          [exchangeKindCode e.kind, (e.station.map fun i => byteOf i.val).getD 0xFF,
            (e.descriptor.map fun d => byteOf d.val).getD 0xFF, byteOf e.made]
        | none => [0x00, 0xFF, 0xFF, 0x00])
    ++ wordBytes g.exchanges ++ wordBytes (wordOf g.failed)
    ++ [byteOf g.deferredOverruns, byteOf g.droppedOverruns, byteOf g.stray, byteOf (s.fifo x .urgent).length,
      byteOf (s.fifo x .normal).length, yesNo c.timerRunning]

/-- The snapshot an opening takes: of the record or the line for an INFO view, none for the others (R178). -/
def snapshotFor (s : State) : OpenView → List Byte
  | .stationInfo i => stationInfoBytes i (s.stationAt i)
  | .lineInfo x => lineInfoBytes s x
  | .stationCall _ | .stationAnswer _ | .requestCall _ | .requestAnswer _ | .sweepBuild _ | .safeCall _ => []

/-- The bytes of an open view as they stand (R172, R177, R190). -/
def viewBytes (s : State) : OpenView → List Byte
  | .stationCall i => callBufferBytes (s.callPairAt i).staged
  | .stationAnswer i => answerBytes (s.answerPairAt i).published
  | .stationInfo _ => s.port.snapshot
  | .requestCall d => callBufferBytes (s.requestCallAt d)
  | .requestAnswer d => requestAnswerBytes (s.descriptorAt d) (s.requestAnswerAt d)
  | .sweepBuild x => buildBytes (s.store.builds.get x)
  | .safeCall x => safeCallBytes (s.store.safeCalls.get x)
  | .lineInfo _ => s.port.snapshot

/-- The size of a view in bytes (R172). -/
def viewSize : OpenView → Nat
  | .stationCall _ => 33
  | .stationAnswer _ => 39
  | .stationInfo _ => 20
  | .requestCall _ => 33
  | .requestAnswer _ => 48
  | .sweepBuild _ => 145
  | .safeCall _ => 34
  | .lineInfo _ => 40

/-- The byte of the open view at an offset; 0 at or above its size, and with no view open (R175). -/
def portByte (s : State) (offset : Byte) : Byte :=
  match s.port.view with
  | some v => (viewBytes s v).getD offset.toNat 0
  | none => 0

/-- A host write of one byte of a call buffer: a length above 32 is ignored (R89, R190). -/
def CallBuffer.writeByte (c : CallBuffer) (offset : Nat) (b : Byte) : CallBuffer :=
  if offset = 0 then (if b.toNat ≤ 32 then { c with length := b.toNat } else c)
  else { c with bytes := setByte c.bytes (offset - 1) b }

/-- A host write of one byte of a safe-call buffer: a length above 32 is ignored (R89, R190). -/
def SafeCallBuffer.writeByte (c : SafeCallBuffer) (offset : Nat) (b : Byte) : SafeCallBuffer :=
  if offset = 0 then { c with functionCode := b }
  else if offset = 1 then (if b.toNat ≤ 32 then { c with length := b.toNat } else c)
  else { c with bytes := setByte c.bytes (offset - 2) b }

/-- A host write of one byte of a build area, whose length takes any value (R26, R175, R190). -/
def BuildArea.writeByte (a : BuildArea) (offset : Nat) (b : Byte) : BuildArea :=
  if offset = 0 then { a with length := b } else { a with slotBytes := setByte a.slotBytes (offset - 1) b }

/-- A byte written through the data port at an offset: into a view with write access, below its size; else ignored
(R172, R175). -/
def writePortByte (offset b : Byte) (s : State) : State :=
  match s.port.view with
  | some (.stationCall i) =>
    s.setCallPair i ((s.callPairAt i).withStaged ((s.callPairAt i).staged.writeByte offset.toNat b))
  | some (.requestCall d) => s.setRequestCall d ((s.requestCallAt d).writeByte offset.toNat b)
  | some (.sweepBuild x) => s.setBuild x ((s.store.builds.get x).writeByte offset.toNat b)
  | some (.safeCall x) => s.setSafeCall x ((s.store.safeCalls.get x).writeByte offset.toNat b)
  | some (.stationAnswer _) | some (.stationInfo _) | some (.requestAnswer _) | some (.lineInfo _) | none => s

/-! ### The register window, read (R151, R154, R165, R166, R170, R188) -/

/-- The window answers while the RESET pin is high and READY is 1 (R186, R187). -/
def windowOpen (s : State) : Bool := decide (s.pins.reset = .high) && s.port.ready

/-- STATUS (R170, R188). -/
def statusWord (s : State) : Word :=
  wordOf
    ((if s.port.ready then 1 else 0) + 2 * commandStateCode s.command.state + 8 * (if s.port.collision then 1 else 0)
      + 16 * lineStateCode (s.engineAt .a).control + 64 * lineStateCode (s.engineAt .b).control
      + 256 * supervisionCode s.supervision.state)

/-- The kind and index of a view, as VIEW_STATE shows them (R188). -/
def viewCodes : OpenView → Byte × Byte
  | .stationCall i => (0x01, byteOf i.val)
  | .stationAnswer i => (0x02, byteOf i.val)
  | .stationInfo i => (0x03, byteOf i.val)
  | .requestCall d => (0x04, byteOf d.val)
  | .requestAnswer d => (0x05, byteOf d.val)
  | .sweepBuild x => (0x06, lineCode x)
  | .safeCall x => (0x07, lineCode x)
  | .lineInfo x => (0x08, lineCode x)

/-- VIEW_STATE: kind in the low byte, index in the high; 00h and FFh with no view (R188). -/
def viewStateWord (s : State) : Word :=
  match s.port.view with
  | some v => makeWord (viewCodes v).1 (viewCodes v).2
  | none => makeWord 0x00 0xFF

/-- EVT_HEAD0: kind and line of the head record; kind NONE with line none while the queue is empty (R151, R188). -/
def eventHead0 (s : State) : Word :=
  match s.events.records with
  | r :: _ => makeWord (eventKindCode r.kind) ((r.line.map lineCode).getD 0xFF)
  | [] => makeWord 0x00 0xFF

/-- EVT_HEAD1: index and tag (R151, R188). -/
def eventHead1 (s : State) : Word :=
  match s.events.records with
  | r :: _ => makeWord ((r.index.map byteOf).getD 0xFF) (r.tag.getD 0x00)
  | [] => makeWord 0xFF 0x00

/-- EVT_HEAD2: code and aux (R151, R188). -/
def eventHead2 (s : State) : Word :=
  match s.events.records with
  | r :: _ => makeWord (r.code.getD 0x00) (r.aux.getD 0x00)
  | [] => 0

/-- EVT_HEAD3: stamp (R151, R188). -/
def eventHead3 (s : State) : Word :=
  match s.events.records with
  | r :: _ => r.stamp
  | [] => 0

/-- INT_STATUS: bit 0 IRQ, 3:1 service level, 6:4 stack depth, bit 8 EOS error flag (R188). -/
def intStatusWord (s : State) : Word :=
  wordOf
    ((if s.arbiter.irq then 1 else 0) + 2 * s.arbiter.service.toNat + 16 * (s.arbiter.stack.length % 8)
      + 256 * (if s.arbiter.eosError then 1 else 0))

/-- INT_PEND: the pending flags and the EVENTS condition (R166, R188). -/
def intPendWord (s : State) : Word :=
  wordOf
    ((if s.arbiter.pendingSupervision then 1 else 0) + 2 * (if s.arbiter.pendingLineA then 1 else 0)
      + 4 * (if s.arbiter.pendingLineB then 1 else 0)
      + 8 * (if s.arbiter.conditionOf s.events.records.length .events then 1 else 0)
      + 16 * (if s.arbiter.pendingCommand then 1 else 0))

/-- INT_LEVELS0: 2:0 SUPERVISION, 6:4 LINE_A, 10:8 LINE_B, 14:12 EVENTS (R188). -/
def levels0Word (a : Arbiter) : Word :=
  wordOf
    (a.levelSupervision.toNat + 16 * a.levelLineA.toNat + 256 * a.levelLineB.toNat + 4096 * a.levelEvents.toNat)

/-- INT_LEVELS1: 2:0 COMMAND, 13:8 EVENTS threshold (R188). -/
def levels1Word (a : Arbiter) : Word := wordOf (a.levelCommand.toNat + 256 * a.threshold)

/-- A register's content at an address of the window, without the effect of a read that has one: INT_CLAIM and DATA
show nothing here, their reads are commands. Addresses not used and write-only registers read 0 (R168, R188). -/
def registerContent (s : State) (address : WindowAddress) : Word :=
  if address = 0x00 then statusWord s
  else if address = 0x01 then s.command.cmd
  else if address = 0x02 then s.command.param0
  else if address = 0x03 then s.command.param1
  else if address = 0x04 then s.command.param2
  else if address = 0x05 then s.command.param3
  else if address = 0x06 then s.command.result0
  else if address = 0x07 then s.command.result1
  else if address = 0x08 then viewStateWord s
  else if address = 0x09 then makeWord s.port.offset 0x00
  else if address = 0x0C then eventHead0 s
  else if address = 0x0D then eventHead1 s
  else if address = 0x0E then eventHead2 s
  else if address = 0x0F then eventHead3 s
  else if address = 0x10 then makeWord (byteOf s.events.records.length) (byteOf s.events.lost)
  else if address = 0x16 then wordOf s.arbiter.service.toNat
  else if address = 0x17 then intStatusWord s
  else if address = 0x18 then intPendWord s
  else if address = 0x19 then levels0Word s.arbiter
  else if address = 0x1A then levels1Word s.arbiter
  else if address = 0x1D then makeWord (byteOf s.supervision.period) (byteOf s.supervision.countdown)
  else 0

/-- What a read without effect returns (DESIGN CHOICE: log 32): 0 while the RESET pin is low; while READY is 0, STATUS
alone (R170, R186, R187). -/
def windowRead (s : State) (address : WindowAddress) : Word :=
  if s.pins.reset = .low then 0
  else if s.port.ready then registerContent s address
  else if address = 0x00 then statusWord s
  else 0

/-- The word a read drives, in the enabled lanes (R168; DESIGN CHOICE: log 8): 0 while the window is closed (R186,
R187). -/
def driveData (lanes : Lanes) (value : Word) (s : State) : State :=
  { s with
    port := { s.port with dataOut := mergeLanes lanes s.port.dataOut (if windowOpen s then value else 0) } }

end Sys2Proof.Machine
end

