-- ==== Sys2Proof/Machine/Data.lean ====
section
/-! DEFINITION. COMMIT_CALL, OPEN_VIEW, CLOSE_VIEW and the data port: DATA_READ, DATA_WRITE, VIEW_OFFSET_WRITE
(chapters 5 and 10). -/

namespace Sys2Proof.Machine

/-- COMMIT_CALL's checks and effects (R91, R92, R93). -/
def commitCall (p : TakenCommand) (s : State) : Completion :=
  let index := fieldOf p.param0 0 8
  let i := stationOfNat index
  let r := s.stationAt i
  if ¬ index < 32 then refuse s .badParam 1
  else if r.defined = false then refuse s .notDefined 0
  else if r.commitPending then refuse s .pending 0
  else if s.port.view = some (.stationCall i) then refuse s .inUse 0
  else
    match (s.engineAt r.line).control with
    | .stopped | .halted =>
      { state := s.setCallPair i (s.callPairAt i).swap, result := .ok, detail := 0 }
    | .running | .stopping =>
      { state := s.setStation i { r with commitPending := true }, result := .okDeferred, detail := 0 }

/-- COMMIT_CALL (R91). -/
def execCommitCall (s : State) : Host.Outcome State Fault Refusal := .next (completeCommand 0x40 commitCall s)

/-- The view that a kind byte and an index byte name, or the detail of BAD_PARAM: 4 for the kind, 1, 2 or 3 for the
index (R173, R188). -/
def viewOf (kind index : Nat) : Nat ⊕ OpenView :=
  let onStation (v : Fin 32 → OpenView) : Nat ⊕ OpenView := if index < 32 then .inr (v (stationOfNat index)) else .inl 1
  let onDescriptor (v : Fin 16 → OpenView) : Nat ⊕ OpenView :=
    if index < 16 then .inr (v (descriptorOfNat index)) else .inl 2
  let onLine (v : Line → OpenView) : Nat ⊕ OpenView := if index < 2 then .inr (v (lineOfNat index)) else .inl 3
  match kind with
  | 1 => onStation .stationCall
  | 2 => onStation .stationAnswer
  | 3 => onStation .stationInfo
  | 4 => onDescriptor .requestCall
  | 5 => onDescriptor .requestAnswer
  | 6 => onLine .sweepBuild
  | 7 => onLine .safeCall
  | 8 => onLine .lineInfo
  | _ => .inl 4

/-- Checks 3 and 4 of OPEN_VIEW (R173). -/
def viewRefusal (s : State) : OpenView → Option CommandResult
  | .stationCall i =>
    if (s.stationAt i).defined = false then some .notDefined
    else if (s.stationAt i).commitPending then some .pending
    else none
  | .stationAnswer i => if (s.stationAt i).defined = false then some .notDefined else none
  | .requestCall d =>
    match (s.descriptorAt d).state with
    | .queued | .active | .done => some .wrongState
    | .free | .opened => none
  | .requestAnswer d => if (s.descriptorAt d).state = .done then none else some .wrongState
  | .stationInfo _ | .sweepBuild _ | .safeCall _ | .lineInfo _ => none

/-- Step 2 of OPEN_VIEW: REQ_CALL makes a FREE descriptor OPEN (R110, R173). -/
def reserveDescriptor (v : OpenView) (s : State) : State :=
  match v with
  | .requestCall d =>
    if (s.descriptorAt d).state = .free then s.setDescriptor d { s.descriptorAt d with state := .opened } else s
  | _ => s

/-- Steps 1 to 3 of OPEN_VIEW: the open view is closed, a FREE descriptor reserved, the new view opened at offset 0
with its snapshot (R173, R178). -/
def openNewView (v : OpenView) (s : State) : State :=
  let reserved := reserveDescriptor v (closeOpenView s)
  { reserved with
    port := { reserved.port with view := some v, offset := 0, readAhead := none, snapshot := snapshotFor reserved v } }

/-- OPEN_VIEW's checks and effects (R173). -/
def openView (p : TakenCommand) (s : State) : Completion :=
  match viewOf (fieldOf p.param0 0 8) (fieldOf p.param0 8 8) with
  | .inl detail => refuse s .badParam detail
  | .inr v =>
    match viewRefusal s v with
    | some result => refuse s result 0
    | none => { state := openNewView v s, result := .ok, detail := viewSize v }

/-- OPEN_VIEW (R173). -/
def execOpenView (s : State) : Host.Outcome State Fault Refusal := .next (completeCommand 0x41 openView s)

/-- CLOSE_VIEW's effects (R174). -/
def closeView (_p : TakenCommand) (s : State) : Completion :=
  { state := closeOpenView s, result := .ok, detail := if s.port.view.isSome then 1 else 0 }

/-- CLOSE_VIEW (R174). -/
def execCloseView (s : State) : Host.Outcome State Fault Refusal := .next (completeCommand 0x42 closeView s)

/-! ### The data port (R175 to R177) -/

/-- How many bytes an access to DATA moves (R175). -/
def bytesMoved (lanes : Lanes) : Nat :=
  match lanes with
  | .word => 2
  | .low => 1
  | .high => 1

/-- The read-ahead at an offset, filled from the open view (R177; DEDUCED: log 28). -/
def fetchAhead (s : State) (offset : Byte) : ReadAhead :=
  { offset := offset, first := portByte s offset, second := portByte s (offset + 1) }

/-- The read-ahead that answers a read: the one held where it matches the offset, else one filled from the view
(R177). -/
def currentAhead (s : State) : ReadAhead :=
  match s.port.readAhead with
  | some ahead => if ahead.offset = s.port.offset then ahead else fetchAhead s s.port.offset
  | none => fetchAhead s s.port.offset

/-- The word a read of DATA drives: two bytes, or one in the enabled lane (R176). -/
def aheadWord (lanes : Lanes) (ahead : ReadAhead) : Word :=
  match lanes with
  | .word => makeWord ahead.first ahead.second
  | .low => makeWord ahead.first 0
  | .high => makeWord 0 ahead.first

/-- The view offset moved on by the bytes moved, wrapping after 255; with no view open it stays 0 (R175). -/
def advanceOffset (lanes : Lanes) (s : State) : State :=
  if s.port.view.isSome then
    { s with port := { s.port with offset := s.port.offset + byteOf (bytesMoved lanes) } }
  else s

/-- A read of DATA: answered from the read-ahead, the offset moved on, the read-ahead refilled (R175, R176, R177).
With no view open it returns 0 (R175). -/
def dataRead (lanes : Lanes) (s : State) : State :=
  if s.port.view.isSome then
    let moved := advanceOffset lanes (driveData lanes (aheadWord lanes (currentAhead s)) s)
    { moved with port := { moved.port with readAhead := some (fetchAhead moved moved.port.offset) } }
  else driveData lanes 0 s

/-- DATA_READ (R175). -/
def execDataRead (lanes : Lanes) (s : State) : Host.Outcome State Fault Refusal :=
  .next (if windowOpen s then dataRead lanes s else driveData lanes 0 s)

/-- A write of DATA: the byte at the offset, in a word access also the one after it, each judged on its own; the
offset moves on and the read-ahead is emptied (R175, R176, R177). With no view open it is ignored. -/
def dataWrite (lanes : Lanes) (data : Word) (s : State) : State :=
  if s.port.view.isSome then
    let written :=
      match lanes with
      | .word => writePortByte (s.port.offset + 1) (hiByte data) (writePortByte s.port.offset (loByte data) s)
      | .low => writePortByte s.port.offset (loByte data) s
      | .high => writePortByte s.port.offset (hiByte data) s
    let moved := advanceOffset lanes written
    { moved with port := { moved.port with readAhead := none } }
  else s

/-- DATA_WRITE (R175). -/
def execDataWrite (lanes : Lanes) (data : Word) (s : State) : Host.Outcome State Fault Refusal :=
  .next (if windowOpen s then dataWrite lanes data s else s)

/-- A write to VIEW_OFFSET that includes the low byte sets the offset and empties the read-ahead; the high byte alone,
or no view open: ignored (R176). -/
def viewOffsetWrite (lanes : Lanes) (data : Word) (s : State) : State :=
  if lanes.includesLow ∧ s.port.view.isSome then
    { s with port := { s.port with offset := loByte data, readAhead := none } }
  else s

/-- VIEW_OFFSET_WRITE (R176). -/
def execViewOffsetWrite (lanes : Lanes) (data : Word) (s : State) : Host.Outcome State Fault Refusal :=
  .next (if windowOpen s then viewOffsetWrite lanes data s else s)

end Sys2Proof.Machine
end

