-- ==== Sys2Proof/Machine/Interrupts.lean ====
section
/-! DEFINITION. The Event Queue's removal and the Interrupt Arbiter's accesses (chapters 8 and 9): EVT_ADVANCE,
INT_CLAIM, INT_EOS, INT_SVC_WRITE, INT_STATUS_READ, INT_PEND_WRITE, INT_LEVELS_WRITE. -/

namespace Sys2Proof.Machine

/-- A removal (R152, R153): ignored when empty; from a full queue with losses a LOST record is appended and the lost
count cleared. -/
def EventQueue.advance (q : EventQueue) : EventQueue :=
  match q.records with
  | [] => q
  | _ :: rest =>
    if q.records.length = eventCapacity ∧ 0 < q.lost then { records := rest ++ [lostRecord q.lost], lost := 0 }
    else { q with records := rest }

/-- A write to EVT_ADVANCE, with any lanes and data (R152); the count is handed to the Arbiter (R155). -/
def evtAdvance (s : State) : State := settleIrq { s with events := s.events.advance }

/-- EVT_ADVANCE (R152). -/
def execEvtAdvance (_lanes : Lanes) (_data : Word) (s : State) : Host.Outcome State Fault Refusal :=
  .next (if windowOpen s then evtAdvance s else s)

/-- The source a claim takes: the winner, where its level is above the service level (R161). -/
def claimed (s : State) : Option Source :=
  match s.arbiter.winner s.events.records.length with
  | some src => if s.arbiter.service < s.arbiter.levelOf src then some src else none
  | none => none

/-- The arbiter after a claim of a source: an edge source's flag cleared, the service level pushed and raised
(R161). -/
def Arbiter.claim (a : Arbiter) (src : Source) : Arbiter :=
  { a.withFlag src false with stack := a.service :: a.stack, service := a.levelOf src }

/-- What a claim returns: the source id and its level, or NONE with the service level (R161, R188). -/
def claimWord (s : State) : Word :=
  match claimed s with
  | some src => wordOf ((sourceCode src).toNat + 256 * (s.arbiter.levelOf src).toNat)
  | none => wordOf (256 * s.arbiter.service.toNat)

/-- A claim (R161). -/
def intClaim (lanes : Lanes) (s : State) : State :=
  let driven := driveData lanes (claimWord s) s
  match claimed s with
  | some src => setArbiter driven (s.arbiter.claim src)
  | none => driven

/-- INT_CLAIM (R161): while READY is 0 a read returns 0 and takes nothing (R186). -/
def execIntClaim (lanes : Lanes) (s : State) : Host.Outcome State Fault Refusal :=
  .next (if windowOpen s then intClaim lanes s else driveData lanes 0 s)

/-- An end of service (R163). -/
def intEos (s : State) : State :=
  match s.arbiter.stack with
  | top :: rest => setArbiter s { s.arbiter with service := top, stack := rest }
  | [] => { s with arbiter := { s.arbiter with eosError := true } }

/-- INT_EOS (R163). -/
def execIntEos (_lanes : Lanes) (_data : Word) (s : State) : Host.Outcome State Fault Refusal :=
  .next (if windowOpen s then intEos s else s)

/-- A direct write of the service level by the low byte of INT_SVC; the high byte alone is ignored (R164). -/
def intSvcWrite (lanes : Lanes) (data : Word) (s : State) : State :=
  if lanes.includesLow then
    if s.arbiter.stack = [] ∧ (loByte data).toNat < 8 then
      setArbiter s { s.arbiter with service := (loByte data).setWidth 3 }
    else { s with arbiter := { s.arbiter with eosError := true } }
  else s

/-- INT_SVC_WRITE (R164). -/
def execIntSvcWrite (lanes : Lanes) (data : Word) (s : State) : Host.Outcome State Fault Refusal :=
  .next (if windowOpen s then intSvcWrite lanes data s else s)

/-- A read of INT_STATUS: it returns the register, and clears the EOS error flag where it includes the high byte
(R165). -/
def intStatusRead (lanes : Lanes) (s : State) : State :=
  let driven := driveData lanes (intStatusWord s) s
  if lanes.includesHigh then { driven with arbiter := { driven.arbiter with eosError := false } } else driven

/-- INT_STATUS_READ (R165). -/
def execIntStatusRead (lanes : Lanes) (s : State) : Host.Outcome State Fault Refusal :=
  .next (if windowOpen s then intStatusRead lanes s else driveData lanes 0 s)

/-- The arbiter with the marked pending flags cleared: bit 0 SUPERVISION, 1 LINE_A, 2 LINE_B, 4 COMMAND (R166,
R188). -/
def Arbiter.clearMarked (a : Arbiter) (marks : Byte) : Arbiter :=
  { a with pendingSupervision := a.pendingSupervision && !marks.getLsbD 0,
           pendingLineA := a.pendingLineA && !marks.getLsbD 1, pendingLineB := a.pendingLineB && !marks.getLsbD 2,
           pendingCommand := a.pendingCommand && !marks.getLsbD 4 }

/-- A write to INT_PEND: every flag stands in the low byte, so a write of the high byte marks none (R166). -/
def intPendWrite (lanes : Lanes) (data : Word) (s : State) : State :=
  if lanes.includesLow then setArbiter s (s.arbiter.clearMarked (loByte data)) else s

/-- INT_PEND_WRITE (R166). -/
def execIntPendWrite (lanes : Lanes) (data : Word) (s : State) : Host.Outcome State Fault Refusal :=
  .next (if windowOpen s then intPendWrite lanes data s else s)

/-- The arbiter with the fields of a level register's written bytes (R159, R188): a threshold of 0 or above 32 is
ignored (R158). -/
def Arbiter.writeLevels (a : Arbiter) (register : LevelsRegister) (lanes : Lanes) (data : Word) : Arbiter :=
  let low := lanes.includesLow
  let high := lanes.includesHigh
  match register with
  | .levels0 =>
    { a with levelSupervision := if low then data.extractLsb' 0 3 else a.levelSupervision,
             levelLineA := if low then data.extractLsb' 4 3 else a.levelLineA,
             levelLineB := if high then data.extractLsb' 8 3 else a.levelLineB,
             levelEvents := if high then data.extractLsb' 12 3 else a.levelEvents }
  | .levels1 =>
    let threshold := fieldOf data 8 6
    { a with levelCommand := if low then data.extractLsb' 0 3 else a.levelCommand,
             threshold := if high ∧ 1 ≤ threshold ∧ threshold ≤ 32 then threshold else a.threshold }

/-- A write to INT_LEVELS0 or INT_LEVELS1 (R159). -/
def intLevelsWrite (register : LevelsRegister) (lanes : Lanes) (data : Word) (s : State) : State :=
  setArbiter s (s.arbiter.writeLevels register lanes data)

/-- INT_LEVELS_WRITE (R159). -/
def execIntLevelsWrite (register : LevelsRegister) (lanes : Lanes) (data : Word) (s : State) :
    Host.Outcome State Fault Refusal :=
  .next (if windowOpen s then intLevelsWrite register lanes data s else s)

end Sys2Proof.Machine
end

