-- ==== Sys2Proof/Machine/LineEvents.lean ====
section
/-! DEFINITION. What happens on a line (chapters 3 and 4): the end of a call, start bits, characters, the pin's return,
the expiries of the spans, BREAK. An occurrence in a state in which its rule gives it no effect changes nothing
(DEDUCED: log 4). -/

namespace Sys2Proof.Machine

/-! ### The end of a call (R53, R87) -/

/-- Driver enable is released and the receiver comes on; on a low pin the break measurement starts (R85, R87). -/
def LineEngine.released (g : LineEngine) (rx : PinLevel) : LineEngine :=
  { g with driverEnable := false, sending := none, reception := none,
           lowSpan := if rx = .low then some (g.config.spanOf breakLimit) else none }

/-- The last stop bit of a call whose abort is not pending: AWAITING with the receive buffer cleared and the answer
timeout started, or for a broadcast GUARD with outcome GOOD (R53, R55). -/
def endCalling (x : Line) (e : Exchange) (s : State) : State :=
  let on := s.modEngine x fun g => g.released (s.pins.rx.get x)
  match e.kind with
  | .cyclic | .probe | .request =>
    on.modEngine x fun g =>
      { g with exState := .awaiting, buffer := ReceiveBuffer.reset,
               span := some (g.config.spanOf g.config.answerTimeout) }
  | .broadcast | .safeCall => closeAttempt x .good on

/-- CALLING ends at the last stop bit (R53). While abort pending is yes that stop bit is the end of the abort's tail: an
abort that lands before this row ends the exchange here (R65, R134). -/
def callFrameSent (x : Line) (s : State) : State :=
  let g := s.engineAt x
  match g.exchange with
  | some e => if g.exState = .calling then (if g.abortPending then endTail x s else endCalling x e s) else s
  | none => s

/-- CALL_FRAME_SENT (R53). -/
def execCallFrameSent (x : Line) (s : State) : Host.Outcome State Fault Refusal := .next (callFrameSent x s)

/-! ### The receive pin (R74, R83, R85) -/

/-- A falling edge begins a character: AWAITING becomes RECEIVING, and the running span stops (R54, R59, R74, R83, R84).
Its middle sample is `left` microseconds away; the span is kept for the case that this sample rejects the edge (R74;
DEDUCED: log 11). -/
def LineEngine.begun (g : LineEngine) (r : Reception) (left : Nat) (later : List LaterEdge) : LineEngine :=
  { g with reception := some r, span := none, exState := if g.exState = .awaiting then .receiving else g.exState,
           edge := some { left := left, awaited := decide (g.exState = .awaiting), span := g.span, overdue := false,
                          later := later } }

/-- Another edge falls before the middle sample of one before it, and is sampled half a bit time later itself (R74). -/
def FallingEdge.followed (e : FallingEdge) (left : Nat) : FallingEdge :=
  { e with later := e.later ++ [{ left := left, overdue := decide (e.span = some 0) }] }

/-- What a falling edge does to the receiver (R74, R85): the break measurement starts; between characters a character
begins at the edge; where an earlier edge waits for its middle sample, this one waits for its own behind it; inside a
validated character the receiver looks for no further edge. -/
def LineEngine.fallingEdge (g : LineEngine) : LineEngine :=
  let low := { g with lowSpan := some (g.config.spanOf breakLimit) }
  match g.reception with
  | none => low.begun { elapsed := 0, lastEdge := 0 } g.config.halfBit []
  | some r => { low with reception := some r.edged, edge := g.edge.map fun e => e.followed g.config.halfBit }

/-- Inside a validated character the edges of its bits need not be presented, so the level there is not known and an
edge is taken at either (DEDUCED: log 10). -/
def LineEngine.insideCharacter (g : LineEngine) : Bool := g.receiving && g.edge.isNone

/-- A falling edge on the receive pin (R74), on a pin that was high or inside a character. While the receiver is off or
blanked only the pin's level changes (R87; DEDUCED: log 10). On a low pin no edge falls (R75). -/
def startBitArrival (x : Line) (s : State) : State :=
  let g := s.engineAt x
  if s.pins.rx.get x = .high ∨ g.insideCharacter then
    if g.receiverOn then (s.setRx x .low).modEngine x LineEngine.fallingEdge else s.setRx x .low
  else s

/-- START_BIT_ARRIVAL (R74). -/
def execStartBitArrival (x : Line) (s : State) : Host.Outcome State Fault Refusal := .next (startBitArrival x s)

/-- The pin is sampled high after being low: the break measurement ends, and between characters the silence of DRAINING
or GUARD starts to be timed (R60, R83, R84, R85). -/
def pinReturnsHigh (x : Line) (s : State) : State :=
  let g := s.engineAt x
  if s.pins.rx.get x = .low ∨ g.insideCharacter then
    let high := (s.setRx x .high).modEngine x fun g =>
      { g with lowSpan := none, reception := g.reception.map Reception.edged }
    if g.receiverOn ∧ g.receiving = false then
      match g.exState with
      | .draining => high.modEngine x fun g => { g with span := some (g.config.spanOf g.config.gapLimit) }
      | .guarding => high.modEngine x fun g => { g with span := some (g.config.spanOf g.config.guardTime) }
      | .idle | .calling | .awaiting | .receiving => high
    else high
  else s

/-- PIN_RETURNS_HIGH (R83). -/
def execPinReturnsHigh (x : Line) (s : State) : Host.Outcome State Fault Refusal := .next (pinReturnsHigh x s)

/-! ### Characters (R56 to R62, R75, R76) -/

/-- The buffer after an answer character that passes its position's check (R55, R56, R78). -/
def ReceiveBuffer.take (b : ReceiveBuffer) (data : Byte) : ReceiveBuffer :=
  let next := { b with position := b.position + 1 }
  if b.position = 0 then { next with echo := data }
  else if b.position = 1 then { next with status := data }
  else if b.position = 2 then { next with declared := data }
  else if b.position < 3 + b.declared.toNat then
    { next with stored := b.stored + 1, payload := setByte b.payload b.stored data }
  else if b.position = 3 + b.declared.toNat then { next with check := makeWord (loByte b.check) data }
  else { next with check := makeWord data (hiByte b.check) }

/-- The failure an answer character's position finds: WRONG_STATION at the first, OVERLENGTH at the third (R56). -/
def positionFailure (b : ReceiveBuffer) (e : Exchange) (data : Byte) : Option ExchangeResult :=
  if b.position = 0 ∧ data ≠ e.address then some .wrongStation
  else if b.position = 2 ∧ e.answerMax.getD 32 < data.toNat then some .overlength
  else none

/-- The character at this position is C2: the frame is complete (R56, R58). -/
def isLastPosition (b : ReceiveBuffer) : Bool := decide (3 ≤ b.position) && decide (b.position = b.declared.toNat + 4)

/-- An answer character with mark bit 0 in RECEIVING (R56, R57, R58): FRAMING_ERROR by its stop bit; else its position's
check; else it is taken, and either the frame is complete or the gap limit starts. -/
def answerCharacter (x : Line) (e : Exchange) (data : Byte) (stop : Bool) (s : State) : State :=
  let b := (s.engineAt x).buffer
  if !stop then enterDraining x .framingError s
  else
    match positionFailure b e data with
    | some failure => enterDraining x failure s
    | none =>
      if isLastPosition b then
        closeAttempt x (frameVerdict (b.take data)) (s.modEngine x fun g => { g with buffer := b.take data })
      else
        s.modEngine x fun g => { g with buffer := b.take data, span := some (g.config.spanOf g.config.gapLimit) }

/-- A stray character: counted, and GUARD entered or restarted with a fresh guard time (R62). -/
def strayCharacter (x : Line) (s : State) : State :=
  enterGuard x (s.modEngine x fun g => { g with stray := saturatingSucc 255 g.stray })

/-- The level a stop bit is sampled at (R75). -/
def stopLevel (stop : Bool) : PinLevel := if stop then .high else .low

/-- The end of a character on the pin: the level and the break measurement are as the edges inside it left them, where
they tell (R75, R83, R84, R85). Else the stop bit gives the level: a high one ends the break measurement, and behind a
low one it counts the low bits that end the character (DEDUCED: logs 10 and 12). -/
def endCharacter (x : Line) (data : Byte) (mark stop : Bool) (s : State) : State :=
  if (s.engineAt x).edgesTell (s.pins.rx.get x) data mark stop then
    s.modEngine x fun g => { g with reception := none, edge := none }
  else
    (s.setRx x (stopLevel stop)).modEngine x fun g =>
      { g with reception := none, edge := none,
               lowSpan := if stop then none else some (g.config.spanOf (breakLimit - lowRunAtEnd data mark)) }

/-- A character is taken at the end of its stop bit and classed by its mark bit, then by the exchange state (R75,
R76): mark bit 1 is a CONFLICT fault (R138, R139); in CALLING and AWAITING no other takes effect (DEDUCED: log 33).
Off or blanked, or without a start bit validated, none is taken (R62, R87). -/
def characterReceived (x : Line) (data : Byte) (mark stop : Bool) (s : State) : State :=
  let g := s.engineAt x
  if g.receiverOn ∧ g.receiving then
    let taken := endCharacter x data mark stop s
    if mark then lineFault x .conflict taken
    else
      match g.exState, g.exchange with
      | .receiving, some e => answerCharacter x e data stop taken
      | .draining, _ => taken.modEngine x fun g => { g with span := silenceSpan taken x g.config.gapLimit }
      | .idle, _ => strayCharacter x taken
      | .guarding, _ => strayCharacter x taken
      | .receiving, none => taken
      | .calling, _ => taken
      | .awaiting, _ => taken
  else s

/-- CHARACTER_RECEIVED (R76). -/
def execCharacterReceived (x : Line) (data : Byte) (mark stop : Bool) (s : State) :
    Host.Outcome State Fault Refusal :=
  .next (characterReceived x data mark stop s)

/-! ### Expiries (R54, R59 to R61) -/

/-- The exchange state is this one and its span runs. -/
def LineEngine.timing (g : LineEngine) (state : ExchangeState) : Bool := decide (g.exState = state) && g.span.isSome

/-- An effect takes place as if no edge had occurred, and the edges still waiting for their samples then stand behind it,
where the receiver is still on (R52, R61, R74). -/
def aheadOfEdges (x : Line) (e : FallingEdge) (effect : State → State) (s : State) : State :=
  let landed := (effect ((s.setRx x .high).modEngine x fun g => g.rejected e)).setRx x (s.pins.rx.get x)
  match (s.engineAt x).reception with
  | none => landed
  | some r =>
    if (landed.engineAt x).receiverOn then
      landed.modEngine x fun g => g.begun r e.left (e.later.map fun l => { l with overdue := false })
    else landed

/-- A span of the line reaches its value in its exchange state: the effect takes place. While a falling edge that
stopped the span waits for its middle sample the expiry is held; where it was held behind an earlier edge that has been
rejected, it takes effect before the edges that fell since (R74). -/
def spanReached (x : Line) (state : ExchangeState) (effect : State → State) (s : State) : State :=
  let g := s.engineAt x
  match g.edge with
  | none => if g.timing state then effect s else s
  | some e =>
    if g.stateBefore e = state ∧ e.span.isSome then
      if e.overdue then aheadOfEdges x e effect s
      else s.modEngine x fun g => { g with edge := some { e with span := some 0 } }
    else s

/-- Expiry of the answer timeout in AWAITING: NO_ANSWER, and GUARD (R54). -/
def answerTimeout (x : Line) (s : State) : State := spanReached x .awaiting (closeAttempt x .noAnswer) s

/-- ANSWER_TIMEOUT (R54). -/
def execAnswerTimeout (x : Line) (s : State) : Host.Outcome State Fault Refusal := .next (answerTimeout x s)

/-- Expiry of the gap limit in RECEIVING: TRUNCATED, and GUARD (R59). -/
def gapLimitExpiry (x : Line) (s : State) : State := spanReached x .receiving (closeAttempt x .truncated) s

/-- GAP_LIMIT_EXPIRY (R59). -/
def execGapLimitExpiry (x : Line) (s : State) : Host.Outcome State Fault Refusal := .next (gapLimitExpiry x s)

/-- The silence of DRAINING reaches the gap limit: GUARD with the outcome recorded at entry (R60). -/
def drainSilenceEnd (x : Line) (s : State) : State := spanReached x .draining (enterGuard x) s

/-- DRAIN_SILENCE_END (R60). -/
def execDrainSilenceEnd (x : Line) (s : State) : Host.Outcome State Fault Refusal := .next (drainSilenceEnd x s)

/-- Expiry of the guard time (R61). -/
def guardTimeExpiry (x : Line) (s : State) : State := spanReached x .guarding (guardExpiry x) s

/-- GUARD_TIME_EXPIRY (R61). -/
def execGuardTimeExpiry (x : Line) (s : State) : Host.Outcome State Fault Refusal := .next (guardTimeExpiry x s)

/-- The receive pin has been low for the break limit while the receiver is on: a BREAK fault (R85, R138, R139). -/
def breakDetected (x : Line) (s : State) : State :=
  if (s.engineAt x).receiverOn ∧ s.pins.rx.get x = .low then lineFault x .lineBreak s else s

/-- BREAK (R85). -/
def execBreakDetected (x : Line) (s : State) : Host.Outcome State Fault Refusal := .next (breakDetected x s)

end Sys2Proof.Machine
end

