-- ==== Sys2Proof/Machine/Lines.lean ====
section
/-! DEFINITION. The line commands (chapter 7): SET_LINE, START_LINE, STOP_LINE, ABORT_LINE, and the end of an abort's
tail. -/

namespace Sys2Proof.Machine

/-- The configuration a SET_LINE writes (R130, R189). -/
def configOf (p : TakenCommand) : LineConfig :=
  { divisor := fieldOf p.param0 0 8, answerTimeout := fieldOf p.param1 0 12, gapLimit := fieldOf p.param2 0 8,
    guardTime := fieldOf p.param2 8 8, mode := modeOfNat (fieldOf p.param0 10 2), urgentBurst := fieldOf p.param0 12 3,
    sweepEndEnable := p.param0.getLsbD 15, markEnable := p.param1.getLsbD 12, safeCallEnable := p.param1.getLsbD 13 }

/-- The line is in service or winding down, which refuses SET_LINE and START_LINE (R130, R131). -/
def LineEngine.inService (g : LineEngine) : Bool :=
  decide (g.control = .running) || decide (g.control = .stopping) || g.windDown

/-- The five line counters at 0 (R71). -/
def LineEngine.clearCounters (g : LineEngine) : LineEngine :=
  { g with exchanges := 0, failed := 0, stray := 0, deferredOverruns := 0, droppedOverruns := 0 }

/-- SET_LINE's checks and effects (R130). -/
def setLine (p : TakenCommand) (s : State) : Completion :=
  let line := fieldOf p.param0 8 2
  let config := configOf p
  let period := p.param3.toNat
  let x := lineOfNat line
  match firstOutOfRange [line < 2, true, 22 ≤ config.answerTimeout, 1 ≤ config.gapLimit, 22 ≤ config.guardTime, true,
      1 ≤ config.urgentBurst ∧ config.urgentBurst ≤ 4, 100 ≤ period] with
  | some position => refuse s .badParam position
  | none =>
    if (s.engineAt x).inService then refuse s .wrongState 0
    else
      { state :=
          (s.modEngine x fun g => { g.clearCounters with config := config, configured := true }).modSweep x fun c =>
            { c with period := period, counter := period, timerRunning := false },
        result := .ok, detail := 0 }

/-- SET_LINE (R130). -/
def execSetLine (s : State) : Host.Outcome State Fault Refusal := .next (completeCommand 0x21 setLine s)

/-- Steps 1 to 5 of START_LINE: cause NONE; count 0, first-sweep marker set, pending start clear; in TIMED mode the
timer loaded and started; RUNNING, the receiver on with the break measurement of a low pin; GUARD (R131). In TRIGGERED
mode the line is armed in BETWEEN state (R38). -/
def startedLine (x : Line) (s : State) : State :=
  let config := (s.engineAt x).config
  enterGuard x
    ((s.modEngine x fun g =>
        { g with haltCause := .noCause, control := .running, exchange := none, reception := none,
                 edge := none,
                 lowSpan := if s.pins.rx.get x = .low then some (config.spanOf breakLimit) else none }).modSweep x
      fun c =>
        { c with count := 0, firstSweep := true, pendingStart := false, state := .between,
                 counter := if config.mode = .timed then c.period else c.counter,
                 timerRunning := decide (config.mode = .timed) })

/-- START_LINE's checks and effects (R131): sweep 0 starts, or in TRIGGERED mode the requests waiting are served at
once (R38). -/
def startLine (p : TakenCommand) (s : State) : Completion :=
  let line := fieldOf p.param0 0 8
  let x := lineOfNat line
  if ¬ line < 2 then refuse s .badParam 1
  else if (s.engineAt x).inService then refuse s .wrongState 0
  else if (s.engineAt x).configured = false then refuse s .notConfigured 0
  else if s.supervision.state = .expired then refuse s .expired 0
  else
    { state :=
        if (s.engineAt x).config.mode = .triggered then pickAndGive x (startedLine x s)
        else sweepAndGive x (startedLine x s),
      result := .ok, detail := 0 }

/-- START_LINE (R131). -/
def execStartLine (s : State) : Host.Outcome State Fault Refusal := .next (completeCommand 0x23 startLine s)

/-- STOP_LINE's checks and effects (R132). -/
def stopLine (p : TakenCommand) (s : State) : Completion :=
  let line := fieldOf p.param0 0 8
  let x := lineOfNat line
  let g := s.engineAt x
  if ¬ line < 2 then refuse s .badParam 1
  else if g.control ≠ .running then refuse s .wrongState 0
  else if g.exchange.isNone then { state := enterLine x .stopped s, result := .ok, detail := 0 }
  else { state := s.modEngine x fun g => { g with control := .stopping }, result := .okDeferred, detail := 0 }

/-- STOP_LINE (R132). -/
def execStopLine (s : State) : Host.Outcome State Fault Refusal := .next (completeCommand 0x24 stopLine s)

/-- ABORT_LINE's checks and effects (R134). -/
def abortLine (p : TakenCommand) (s : State) : Completion :=
  let line := fieldOf p.param0 0 8
  let x := lineOfNat line
  let g := s.engineAt x
  if ¬ line < 2 then refuse s .badParam 1
  else if g.control = .stopped ∨ g.control = .halted then refuse s .wrongState 0
  else if g.abortPending then { state := s, result := .ok, detail := 0 }
  else if g.exchange.isSome ∧ g.exState = .calling then
    { state := s.modEngine x fun g => { g with abortPending := true, control := .stopping }, result := .ok, detail := 0 }
  else { state := endInto x .aborted .stopped s, result := .ok, detail := 0 }

/-- ABORT_LINE (R134). -/
def execAbortLine (s : State) : Host.Outcome State Fault Refusal := .next (completeCommand 0x25 abortLine s)

/-- The end of the character being sent while abort pending is yes (R134, R186). In any other state no abort's tail ends
(DEDUCED: log 4). -/
def abortTailEnd (x : Line) (s : State) : State :=
  let g := s.engineAt x
  if g.abortPending ∧ g.exState = .calling then endTail x s else s

/-- ABORT_TAIL_END (R134). -/
def execAbortTailEnd (x : Line) (s : State) : Host.Outcome State Fault Refusal := .next (abortTailEnd x s)

end Sys2Proof.Machine
end

