-- ==== Sys2Proof/Machine/Supervision.lean ====
section
/-! DEFINITION. The Supervision Timer (sections 7.8 and 7.9): SET_SUPERVISION, SUPV_REFRESH, SUPERVISION_EXPIRY. -/

namespace Sys2Proof.Machine

/-- RESULT1 of a SET_SUPERVISION refused PENDING: 1 for line A, 2 for line B, 3 for both (R141). -/
def windDownLines (s : State) : Nat :=
  (if (s.engineAt .a).windDown then 1 else 0) + if (s.engineAt .b).windDown then 2 else 0

/-- SET_SUPERVISION's checks and effects (R141); the millisecond phase starts anew (DEDUCED: log 34). -/
def setSupervision (p : TakenCommand) (s : State) : Completion :=
  let period := p.param0.toNat
  if 255 < period then refuse s .badParam 1
  else if windDownLines s ≠ 0 then refuse s .pending (windDownLines s)
  else
    { state :=
        { s with
          supervision := { state := if period = 0 then .off else .armed, period := period, countdown := period,
                           subMs := 0 } },
      result := .ok, detail := 0 }

/-- SET_SUPERVISION (R141). -/
def execSetSupervision (s : State) : Host.Outcome State Fault Refusal := .next (completeCommand 0x50 setSupervision s)

/-- A refresh: the countdown of an ARMED timer is loaded with the period (R142), its millisecond phase anew (DEDUCED:
log 34). -/
def supvRefresh (s : State) : State :=
  if s.supervision.state = .armed then
    { s with supervision := { s.supervision with countdown := s.supervision.period, subMs := 0 } }
  else s

/-- SUPV_REFRESH (R142). -/
def execSupvRefresh (_lanes : Lanes) (_data : Word) (s : State) : Host.Outcome State Fault Refusal :=
  .next (if windowOpen s then supvRefresh s else s)

/-- What the expiry does on a line (R143). -/
inductive ExpiryAction where
  | nothing
  | setWindDown
  | sendSafeCall
  | enterHalted
  deriving DecidableEq, Repr

/-- R143 step 4, R144 and R145: a line in service gets its wind-down, which begins with the safe call or the halt
where nothing is in flight; a configured STOPPED line sends its safe call or halts; the others stay. -/
def expiryAction (g : LineEngine) : ExpiryAction :=
  let next := if g.config.safeCallEnable then .sendSafeCall else .enterHalted
  match g.control with
  | .running | .stopping =>
    if g.abortPending then .nothing else if g.exchange.isSome then .setWindDown else next
  | .stopped => if g.configured then next else .nothing
  | .halted => .nothing

/-- The expiry's effect on a line, less its records. -/
def expiryEffect (x : Line) (s : State) : State :=
  match expiryAction (s.engineAt x) with
  | .nothing => s
  | .setWindDown => s.modEngine x fun g => { g with windDown := true }
  | .sendSafeCall => startSafeCall x (s.modEngine x fun g => { g with windDown := true })
  | .enterHalted => enterQuietly x (.halted .supervision) s

/-- The records a line posts at the expiry (R143, R136). -/
def expiryRecords (x : Line) (s : State) : List EventRecord :=
  match expiryAction (s.engineAt x) with
  | .enterHalted => entryRecords x (.halted .supervision) s
  | .nothing | .setWindDown | .sendSafeCall => []

/-- Two lists of records interleaved, each kept in its own order: each record of the first stands behind as many of
the second as a free value says (R143: no order between the two lines; DEDUCED: log 6). -/
def interleave : List EventRecord → List EventRecord → State → List EventRecord × State
  | [], bs, s => (bs, s)
  | r :: rest, bs, s =>
    let k := s.takeFree.1 % (bs.length + 1)
    let (tail, s') := interleave rest (bs.drop k) s.takeFree.2
    (bs.take k ++ r :: tail, s')

/-- Both lines act on the expiry; their records stand in an order the rules leave open (R143). -/
def expiryOnLines (s : State) : State :=
  let acted := expiryEffect .b (expiryEffect .a s)
  let (records, s') := interleave (expiryRecords .a s) (expiryRecords .b s) acted
  postAll records s'

/-- The expiry of the countdown (R143): EXPIRED with the countdown at 0, SUPERVISION pending, the record, both lines.
While a SOFT_RESET is in progress it acts on no line (R186). A timer that is not ARMED does not expire, nor does one
whose countdown a refresh or SET_SUPERVISION has loaded before the expiry lands (R142). The flag and the record stand at
the end of the one step, so a claim behind it finds both (R167; DESIGN CHOICE: log 40). -/
def supervisionExpiry (s : State) : State :=
  if s.supervision.state = .armed ∧ s.supervision.countdown = 0 then
    let expired :=
      post (supervisionExpiredRecord s.supervision.period)
        (setPending .supervision { s with supervision := { s.supervision with state := .expired, countdown := 0 } })
    if s.port.ready then expiryOnLines expired else expired
  else s

/-- SUPERVISION_EXPIRY (R143). -/
def execSupervisionExpiry (s : State) : Host.Outcome State Fault Refusal := .next (supervisionExpiry s)

end Sys2Proof.Machine
end

