-- ==== Sys2Proof/Machine/Port.lean ====
section
/-! DEFINITION. The Command Engine's take and collision, ordinary registers, UNKNOWN_COMMAND, SOFT_RESET and pin RESET
(chapter 10). -/

namespace Sys2Proof.Machine

/-! ### A write to CMD (R169, R180, R181, R186) -/

/-- The command taken: the merged code and the parameters copied, the collision flag cleared, BUSY (R180); a SOFT_RESET
puts READY to 0 and ends the lines' activity (R186; DEDUCED: log 13). -/
def takeCommand (cmd : Word) (s : State) : State :=
  let taken : TakenCommand :=
    { code := cmd, param0 := s.command.param0, param1 := s.command.param1, param2 := s.command.param2,
      param3 := s.command.param3 }
  let busy :=
    { s with command := { s.command with cmd := cmd, taken := some taken, state := .busy },
             port := { s.port with collision := false } }
  if loByte cmd = softResetCode then
    endQuietly .b (endQuietly .a { busy with port := { busy.port with ready := false } })
  else busy

/-- A write to CMD merges into the register (R169): it is taken while the command state is IDLE or DONE (R180), and
while it is BUSY sets the collision flag (R181). -/
def cmdWrite (lanes : Lanes) (data : Word) (s : State) : State :=
  let cmd := mergeLanes lanes s.command.cmd data
  match s.command.state with
  | .idle | .done => takeCommand cmd s
  | .busy => { s with command := { s.command with cmd := cmd }, port := { s.port with collision := true } }

/-- COMMAND_TAKE (R180): a CMD write; the command state decides whether it is taken (DEDUCED: log 22). -/
def execCommandTake (lanes : Lanes) (data : Word) (s : State) : Host.Outcome State Fault Refusal :=
  .next (if windowOpen s then cmdWrite lanes data s else s)

/-- COMMAND_COLLISION (R181): a CMD write; the command state decides whether it collides (DEDUCED: log 22). -/
def execCommandCollision (lanes : Lanes) (data : Word) (s : State) : Host.Outcome State Fault Refusal :=
  .next (if windowOpen s then cmdWrite lanes data s else s)

/-! ### A write to any register (R168) -/

/-- The registers of the window whose write does something (R168, R169, R188). -/
inductive WritableRegister where
  | cmd | param0 | param1 | param2 | param3 | viewOffset | data | evtAdvance | intEos | intSvc | intPend | intLevels0
  | intLevels1 | supvRefresh
  deriving DecidableEq, Repr

/-- The writable register at an address, none where a write is ignored (R168, R188). -/
def writableAt (address : WindowAddress) : Option WritableRegister :=
  if address = 0x01 then some .cmd
  else if address = 0x02 then some .param0
  else if address = 0x03 then some .param1
  else if address = 0x04 then some .param2
  else if address = 0x05 then some .param3
  else if address = 0x09 then some .viewOffset
  else if address = 0x0A then some .data
  else if address = 0x11 then some .evtAdvance
  else if address = 0x15 then some .intEos
  else if address = 0x16 then some .intSvc
  else if address = 0x18 then some .intPend
  else if address = 0x19 then some .intLevels0
  else if address = 0x1A then some .intLevels1
  else if address = 0x1C then some .supvRefresh
  else none

/-- A write strobe at an address: PARAM0 to PARAM3 merge, a register with a behaviour of its own acts by its rule
(DEDUCED: log 21), every other write is ignored (R168). -/
def windowWrite (address : WindowAddress) (lanes : Lanes) (data : Word) (s : State) : State :=
  match writableAt address with
  | some .cmd => cmdWrite lanes data s
  | some .param0 => { s with command := { s.command with param0 := mergeLanes lanes s.command.param0 data } }
  | some .param1 => { s with command := { s.command with param1 := mergeLanes lanes s.command.param1 data } }
  | some .param2 => { s with command := { s.command with param2 := mergeLanes lanes s.command.param2 data } }
  | some .param3 => { s with command := { s.command with param3 := mergeLanes lanes s.command.param3 data } }
  | some .viewOffset => viewOffsetWrite lanes data s
  | some .data => dataWrite lanes data s
  | some .evtAdvance => evtAdvance s
  | some .intEos => intEos s
  | some .intSvc => intSvcWrite lanes data s
  | some .intPend => intPendWrite lanes data s
  | some .intLevels0 => intLevelsWrite .levels0 lanes data s
  | some .intLevels1 => intLevelsWrite .levels1 lanes data s
  | some .supvRefresh => supvRefresh s
  | none => s

/-- REGISTER_WRITE (R168). -/
def execRegisterWrite (address : WindowAddress) (lanes : Lanes) (data : Word) (s : State) :
    Host.Outcome State Fault Refusal :=
  .next (if windowOpen s then windowWrite address lanes data s else s)

/-! ### UNKNOWN_COMMAND (R184) -/

/-- The completion of a taken command whose code is none of the 21: no change of state but the results (R184). -/
def unknownCommand (s : State) : State :=
  match s.command.state, s.command.taken with
  | .busy, some t => if loByte t.code ∈ commandCodes then s else finish (refuse s .unknownCommand 0)
  | _, _ => s

/-- UNKNOWN_COMMAND (R184). -/
def execUnknownCommand (s : State) : Host.Outcome State Fault Refusal := .next (unknownCommand s)

/-! ### Resets (R186, R187) -/

/-- Every block at its reset value, with READY 0: the command queue, the input pins, the last word driven and the free
count are not the reset's (R186 step 2, R187; DESIGN CHOICE: logs 7 to 9). -/
def resetBlocks (s : State) : State :=
  { State.reset with pending := s.pending, pins := s.pins, freeCount := s.freeCount,
                     port := { HostPort.reset with ready := false, dataOut := s.port.dataOut } }

/-- The completion of SOFT_RESET: every block at its reset value, READY 1, command state DONE, RESULT0 OK, COMMAND not
pending (R186). It waits for a character being sent on a line (R183; DEDUCED: log 14). -/
def softReset (s : State) : State :=
  if (s.inProgress softResetCode).isSome ∧ (s.engineAt .a).driverEnable = false
      ∧ (s.engineAt .b).driverEnable = false then
    let r := resetBlocks s
    { r with port := { r.port with ready := true }, command := { r.command with state := .done } }
  else s

/-- SOFT_RESET (R186). -/
def execSoftReset (s : State) : Host.Outcome State Fault Refusal := .next (softReset s)

/-- The RESET pin falls: the part is held in reset, its frames cut and its outputs at their idle levels, the window
closed (R187; DESIGN CHOICE: log 15). -/
def pinResetAssert (s : State) : State :=
  if s.pins.reset = .high then resetBlocks { s with pins := { s.pins with reset := .low } } else s

/-- PIN_RESET_ASSERT (R187). -/
def execPinResetAssert (s : State) : Host.Outcome State Fault Refusal := .next (pinResetAssert s)

/-- The RESET pin returns high: every block is set to its reset values while READY is 0 (R187). -/
def pinResetRelease (s : State) : State :=
  if s.pins.reset = .low then resetBlocks { s with pins := { s.pins with reset := .high } } else s

/-- PIN_RESET_RELEASE (R187). -/
def execPinResetRelease (s : State) : Host.Outcome State Fault Refusal := .next (pinResetRelease s)

/-- READY becomes 1 with the command state IDLE (R187; DESIGN CHOICE: log 16); READY 0 under a SOFT_RESET in progress
is not this one. -/
def readyAfterReset (s : State) : State :=
  if s.pins.reset = .high ∧ s.port.ready = false ∧ s.command.state = .idle then
    { s with port := { s.port with ready := true } }
  else s

/-- READY_AFTER_RESET (R187). -/
def execReadyAfterReset (s : State) : Host.Outcome State Fault Refusal := .next (readyAfterReset s)

end Sys2Proof.Machine
end

