-- ==== Sys2Proof/Machine/Requests.lean ====
section
/-! DEFINITION. The request commands (chapter 6): POST_REQUEST, CANCEL_REQUEST, FLUSH_REQUESTS, COLLECT_REQUEST. -/

namespace Sys2Proof.Machine

/-- The line of a target: the station's line, or the line of the broadcast (R106 note 2). -/
def targetLine (s : State) : Target → Line
  | .station i => (s.stationAt i).line
  | .broadcast x => x

/-- A request that reaches an empty FIFO while the line is free in BETWEEN state causes a pick at once, in SINGLE,
TIMED and TRIGGERED mode (R38); free is no exchange in flight, and a line that winds down gives no work (DEDUCED: log
31). -/
def postCausesPick (s : State) (x : Line) (u : Urgency) : Bool :=
  (s.fifo x u).isEmpty && decide ((s.engineAt x).control = .running) && !(s.engineAt x).windDown
    && decide ((s.sweepAt x).state = .between) && (s.engineAt x).exchange.isNone
    && decide ((s.engineAt x).config.mode ≠ .repeating)

/-- The checks 2 to 4 of POST_REQUEST (R112). -/
def postRefusal (s : State) (d : Fin 16) (target : Target) : Option (CommandResult × Nat) :=
  match (s.descriptorAt d).state with
  | .queued | .active | .done => some (.wrongState, 1)
  | .free | .opened =>
    match target with
    | .station i =>
      if (s.stationAt i).defined = false then some (.notDefined, 0)
      else if (s.stationAt i).health = .disabled then some (.wrongState, 2)
      else none
    | .broadcast _ => none

/-- The descriptor QUEUED with the parameters, its answer not valid, at the tail of its FIFO (R113). -/
def enqueue (d : Fin 16) (target : Target) (functionCode tag : Byte) (u : Urgency) (answerMax : Nat) (s : State) :
    State :=
  let x := targetLine s target
  let queued : Descriptor :=
    { state := .queued, tag := tag, target := some target, line := x, functionCode := functionCode, urgency := u,
      answerMax := answerMax, cancelRequested := false, attemptsUsed := 0, result := none, stamp := none }
  ((s.setDescriptor d queued).setRequestAnswer d
    { s.requestAnswerAt d with valid := false, length := 0, status := 0, stamp := 0 }).setFifo x u (s.fifo x u ++ [d])

/-- POST_REQUEST's checks and effects (R112, R113). -/
def postRequest (p : TakenCommand) (s : State) : Completion :=
  let descriptor := fieldOf p.param0 0 8
  let urgency := fieldOf p.param1 8 8
  let answerMax := fieldOf p.param2 8 8
  match firstOutOfRange [descriptor < 16, (targetOf (hiByte p.param0)).isSome, true, urgency < 2, true,
      answerMax ≤ 32] with
  | some position => refuse s .badParam position
  | none =>
    let d := descriptorOfNat descriptor
    let target := (targetOf (hiByte p.param0)).getD (.broadcast .a)
    let u := urgencyOfNat urgency
    let x := targetLine s target
    match postRefusal s d target with
    | some (result, detail) => refuse s result detail
    | none =>
      let queued := enqueue d target (loByte p.param1) (loByte p.param2) u answerMax s
      { state := if postCausesPick s x u then pickAndGive x queued else queued, result := .ok,
        detail := (s.fifo x u).length + 1 }

/-- POST_REQUEST (R112, R113). -/
def execPostRequest (s : State) : Host.Outcome State Fault Refusal := .next (completeCommand 0x30 postRequest s)

/-- The descriptor leaves its FIFO from whatever position; those behind close up (R108, R121). -/
def leaveFifo (d : Fin 16) (s : State) : State :=
  let r := s.descriptorAt d
  s.setFifo r.line r.urgency ((s.fifo r.line r.urgency).filter fun j => decide (j ≠ d))

/-- CANCEL_REQUEST's checks and effects (R120, R121, R122). -/
def cancelRequest (p : TakenCommand) (s : State) : Completion :=
  let descriptor := fieldOf p.param0 0 8
  let d := descriptorOfNat descriptor
  let r := s.descriptorAt d
  if ¬ descriptor < 16 then refuse s .badParam 1
  else
    match r.state with
    | .free | .opened | .done => refuse s .wrongState 0
    | .queued => { state := completeQueued .cancelled d (leaveFifo d s), result := .ok, detail := 0 }
    | .active =>
      if r.cancelRequested then refuse s .pending 0
      else
        { state := s.setDescriptor d { r with cancelRequested := true }, result := .okDeferred, detail := 0 }

/-- CANCEL_REQUEST (R120). -/
def execCancelRequest (s : State) : Host.Outcome State Fault Refusal := .next (completeCommand 0x31 cancelRequest s)

/-- The descriptors in the named FIFOs of a line, urgent before normal, head to tail: which is 01h URGENT, 02h NORMAL
or 03h BOTH (R124, R189). -/
def flushed (s : State) (x : Line) (which : Nat) : List (Fin 16) :=
  (if which = 1 ∨ which = 3 then s.fifo x .urgent else []) ++ if which = 2 ∨ which = 3 then s.fifo x .normal else []

/-- The named FIFOs emptied (R124). -/
def emptyFifos (x : Line) (which : Nat) (s : State) : State :=
  let urgentOut := if which = 1 ∨ which = 3 then s.setFifo x .urgent [] else s
  if which = 2 ∨ which = 3 then urgentOut.setFifo x .normal [] else urgentOut

/-- FLUSH_REQUESTS's checks and effects (R124). -/
def flushRequests (p : TakenCommand) (s : State) : Completion :=
  let line := fieldOf p.param0 0 8
  let which := fieldOf p.param0 8 8
  let x := lineOfNat line
  match firstOutOfRange [line < 2, 1 ≤ which ∧ which ≤ 3] with
  | some position => refuse s .badParam position
  | none =>
    { state := completeAllQueued .cancelled (flushed s x which) (emptyFifos x which s), result := .ok,
      detail := (flushed s x which).length }

/-- FLUSH_REQUESTS (R124). -/
def execFlushRequests (s : State) : Host.Outcome State Fault Refusal := .next (completeCommand 0x32 flushRequests s)

/-- The descriptor FREE again: result and stamp absent, cancel requested no, attempts used 0; the other fields keep
their values (R107). -/
def Descriptor.collected (r : Descriptor) : Descriptor :=
  { r with state := .free, result := none, stamp := none, cancelRequested := false, attemptsUsed := 0 }

/-- COLLECT_REQUEST's checks and effects (R125). -/
def collectRequest (p : TakenCommand) (s : State) : Completion :=
  let descriptor := fieldOf p.param0 0 8
  let d := descriptorOfNat descriptor
  let r := s.descriptorAt d
  if ¬ descriptor < 16 then refuse s .badParam 1
  else
    match r.state with
    | .free | .queued | .active => refuse s .wrongState 0
    | .done | .opened =>
      if s.port.view = some (.requestCall d) ∨ s.port.view = some (.requestAnswer d) then refuse s .inUse 0
      else { state := s.setDescriptor d r.collected, result := .ok, detail := 0 }

/-- COLLECT_REQUEST (R125). -/
def execCollectRequest (s : State) : Host.Outcome State Fault Refusal := .next (completeCommand 0x33 collectRequest s)

end Sys2Proof.Machine
end

