-- ==== Sys2Proof/Machine/Stations.lean ====
section
/-! DEFINITION. The station commands (section 1.5): DEFINE_STATION, DROP_STATION, ENABLE_STATION, DISABLE_STATION,
SET_STATION_LIMITS. -/

namespace Sys2Proof.Machine

/-- Another defined station on the line that has the address, the lowest index first (R15 check 3). -/
def addressHolder (s : State) (x : Line) (address : Byte) : Option (Fin 32) :=
  (List.finRange 32).find? fun j =>
    (s.stationAt j).defined && decide ((s.stationAt j).line = x) && decide ((s.stationAt j).address = some address)

/-- The record DEFINE_STATION writes (R15). -/
def definedRecord (x : Line) (address functionCode : Byte) (retry offline probe : Nat) (enable : Bool) : Station :=
  { Station.reset with defined := true, line := x, address := some address, functionCode := functionCode,
                       retryLimit := retry, offlineLimit := offline, probeInterval := probe,
                       health := if enable then .probing else .disabled }

/-- DEFINE_STATION clears the station's call and answer data (R15, R90, R97); the roles stay (DESIGN CHOICE: log 23). -/
def clearStationData (i : Fin 32) (s : State) : State :=
  (s.setCallPair i { s.callPairAt i with first := CallBuffer.reset, second := CallBuffer.reset }).setAnswerPair i
    { s.answerPairAt i with first := AnswerBuffer.reset, second := AnswerBuffer.reset }

/-- DEFINE_STATION's checks and effects (R15). -/
def defineStation (p : TakenCommand) (s : State) : Completion :=
  let index := fieldOf p.param0 0 8
  let line := fieldOf p.param0 8 8
  let address := fieldOf p.param1 0 8
  let retry := fieldOf p.param2 0 8
  let offline := fieldOf p.param2 8 8
  let probe := fieldOf p.param3 0 8
  let enable := fieldOf p.param3 8 8
  match firstOutOfRange [index < 32, line < 2, 1 ≤ address ∧ address ≤ 62, true, retry ≤ 3,
      2 ≤ offline ∧ offline ≤ 15, 1 ≤ probe, enable < 2] with
  | some position => refuse s .badParam position
  | none =>
    let i := stationOfNat index
    let x := lineOfNat line
    if (s.stationAt i).defined then refuse s .wrongState 0
    else
      match addressHolder s x (loByte p.param1) with
      | some j => refuse s .duplicateAddress j.val
      | none =>
        let r := definedRecord x (loByte p.param1) (hiByte p.param1) retry offline probe (enable = 1)
        let defined := (clearStationData i s).setStation i r
        { state := if enable = 1 then post (stationStateRecord s i x .probing .disabled) defined else defined,
          result := .ok, detail := 0 }

/-- DEFINE_STATION (R15). -/
def execDefineStation (s : State) : Host.Outcome State Fault Refusal := .next (completeCommand 0x10 defineStation s)

/-- A slot of the live or the shadow list of line `x` names the station (R16 reason 1). -/
def namedBySweep (s : State) (x : Line) (i : Fin 32) : Bool :=
  (s.sweepAt x).live.any (fun slot => decide (slot.station = i))
    || ((s.sweepAt x).shadow.getD []).any fun slot => decide (slot.station = i)

/-- A QUEUED or ACTIVE descriptor names the station as its target (R16 reason 2). -/
def namedByRequest (s : State) (i : Fin 32) : Bool :=
  (List.finRange 16).any fun d =>
    decide ((s.descriptorAt d).target = some (.station i))
      && (decide ((s.descriptorAt d).state = .queued) || decide ((s.descriptorAt d).state = .active))

/-- The open view is a STATION_CALL, STATION_ANSWER or STATION_INFO view on the station (R16 reason 3). -/
def viewedStation (s : State) (i : Fin 32) : Bool :=
  decide (s.port.view = some (.stationCall i)) || decide (s.port.view = some (.stationAnswer i))
    || decide (s.port.view = some (.stationInfo i))

/-- DROP_STATION's checks and effects (R16). -/
def dropStation (p : TakenCommand) (s : State) : Completion :=
  let index := fieldOf p.param0 0 8
  let i := stationOfNat index
  let r := s.stationAt i
  if ¬ index < 32 then refuse s .badParam 1
  else if r.defined = false then refuse s .notDefined 0
  else if namedBySweep s r.line i then refuse s .inUse 1
  else if namedByRequest s i then refuse s .inUse 2
  else if viewedStation s i then refuse s .inUse 3
  else
    let dropped := s.setStation i Station.reset
    { state :=
        if r.health ≠ .disabled then post (stationStateRecord s i r.line .disabled r.health) dropped else dropped,
      result := .ok, detail := 0 }

/-- DROP_STATION (R16). -/
def execDropStation (s : State) : Host.Outcome State Fault Refusal := .next (completeCommand 0x11 dropStation s)

/-- ENABLE_STATION's checks and effects (R17). -/
def enableStation (p : TakenCommand) (s : State) : Completion :=
  let index := fieldOf p.param0 0 8
  let i := stationOfNat index
  let r := s.stationAt i
  if ¬ index < 32 then refuse s .badParam 1
  else if r.defined = false then refuse s .notDefined 0
  else if r.health ≠ .disabled then refuse s .wrongState 0
  else
    { state :=
        post (stationStateRecord s i r.line .probing .disabled)
          (s.setStation i { r with health := .probing, failureCount := 0 }),
      result := .ok, detail := 0 }

/-- ENABLE_STATION (R17). -/
def execEnableStation (s : State) : Host.Outcome State Fault Refusal := .next (completeCommand 0x12 enableStation s)

/-- Whether a descriptor's target is the station. -/
def targetsStation (s : State) (i : Fin 32) (d : Fin 16) : Bool :=
  decide ((s.descriptorAt d).target = some (.station i))

/-- The queued descriptors of a station, the urgent FIFO of its line first, head to tail (R18). -/
def queuedFor (s : State) (x : Line) (i : Fin 32) : List (Fin 16) :=
  (s.fifo x .urgent).filter (targetsStation s i) ++ (s.fifo x .normal).filter (targetsStation s i)

/-- The queued descriptors of a station leave their FIFOs; the others keep their order (R18, R108). -/
def removeQueuedFor (s : State) (x : Line) (i : Fin 32) : State :=
  (s.setFifo x .urgent ((s.fifo x .urgent).filter fun d => !targetsStation s i d)).setFifo x .normal
    ((s.fifo x .normal).filter fun d => !targetsStation s i d)

/-- DISABLE_STATION's checks and effects (R18). -/
def disableStation (p : TakenCommand) (s : State) : Completion :=
  let index := fieldOf p.param0 0 8
  let i := stationOfNat index
  let r := s.stationAt i
  if ¬ index < 32 then refuse s .badParam 1
  else if r.defined = false then refuse s .notDefined 0
  else
    let moved :=
      if r.health = .disabled then s
      else
        post (stationStateRecord s i r.line .disabled r.health)
          (s.setStation i { r with health := .disabled, failureCount := 0 })
    { state := completeAllQueued .stationDisabled (queuedFor s r.line i) (removeQueuedFor moved r.line i),
      result := .ok, detail := (queuedFor s r.line i).length }

/-- DISABLE_STATION (R18). -/
def execDisableStation (s : State) : Host.Outcome State Fault Refusal := .next (completeCommand 0x13 disableStation s)

/-- The record with new limits, its failure count kept within the law of R7 (R20, R21). -/
def limitsRecord (r : Station) (retry offline probe : Nat) : Station :=
  let limited := { r with retryLimit := retry, offlineLimit := offline, probeInterval := probe }
  match r.health with
  | .probing | .suspect =>
    if offline ≤ r.failureCount then
      { limited with health := .offline, failureCount := offline, probeCountdown := probe }
    else limited
  | .offline => { limited with failureCount := offline }
  | .online | .disabled => limited

/-- SET_STATION_LIMITS's checks and effects (R20, R21). -/
def setStationLimits (p : TakenCommand) (s : State) : Completion :=
  let index := fieldOf p.param0 0 8
  let retry := fieldOf p.param1 0 8
  let offline := fieldOf p.param2 0 8
  let probe := fieldOf p.param3 0 8
  match firstOutOfRange [index < 32, retry ≤ 3, 2 ≤ offline ∧ offline ≤ 15, 1 ≤ probe] with
  | some position => refuse s .badParam position
  | none =>
    let i := stationOfNat index
    let r := s.stationAt i
    if r.defined = false then refuse s .notDefined 0
    else
      let after := limitsRecord r retry offline probe
      { state :=
          if after.health ≠ r.health then
            post (stationStateRecord s i r.line after.health r.health) (s.setStation i after)
          else s.setStation i after,
        result := .ok, detail := 0 }

/-- SET_STATION_LIMITS (R20, R21). -/
def execSetStationLimits (s : State) : Host.Outcome State Fault Refusal :=
  .next (completeCommand 0x14 setStationLimits s)

end Sys2Proof.Machine
end

