-- ==== Sys2Proof/Machine/Sweeps.lean ====
section
/-! DEFINITION. The sweep commands LOAD_SWEEP, SET_PERIOD and SWEEP_NOW, and the cycle starts from the cycle timer and
from SYNC (chapter 2). -/

namespace Sys2Proof.Machine

/-- Byte `k` of the slot entries of a build area (R26, R190). -/
def BuildArea.slotByte (b : BuildArea) (k : Nat) : Nat := (b.slotBytes.toList.getD k 0).toNat

/-- The four checks of one slot entry, counted from 0: a defined station, of the line, a divider 1 to 16, a phase
below it (R27). -/
def slotValid (s : State) (x : Line) (b : BuildArea) (k : Nat) : Bool :=
  let index := b.slotByte (3 * k)
  let divider := b.slotByte (3 * k + 1)
  let phase := b.slotByte (3 * k + 2)
  decide (index < 32) && (s.stationAt (stationOfNat index)).defined
    && decide ((s.stationAt (stationOfNat index)).line = x) && decide (1 ≤ divider ∧ divider ≤ 16)
    && decide (phase < divider)

/-- The slots of a build area: the first `length` entries (R28). -/
def BuildArea.slots (b : BuildArea) : List Slot :=
  (List.range b.length.toNat).map fun k =>
    { station := stationOfNat (b.slotByte (3 * k)), divider := b.slotByte (3 * k + 1), phase := b.slotByte (3 * k + 2) }

/-- LOAD_SWEEP's checks and effects (R27, R28): RESULT1 is 0 for the line, 49 for the length, else the number of the
first faulty slot. -/
def loadSweep (p : TakenCommand) (s : State) : Completion :=
  let line := fieldOf p.param0 0 8
  let x := lineOfNat line
  let b := s.store.builds.get x
  if ¬ line < 2 then refuse s .badParam 0
  else if 48 < b.length.toNat then refuse s .badParam 49
  else
    match (List.range b.length.toNat).find? fun k => !slotValid s x b k with
    | some k => refuse s .badParam (k + 1)
    | none =>
      match (s.engineAt x).control with
      | .stopped | .halted =>
        { state := s.modSweep x fun c => { c with live := b.slots, shadow := none }, result := .ok,
          detail := b.length.toNat }
      | .running | .stopping =>
        { state := s.modSweep x fun c => { c with shadow := some b.slots }, result := .okDeferred,
          detail := b.length.toNat }

/-- LOAD_SWEEP (R27, R28). -/
def execLoadSweep (s : State) : Host.Outcome State Fault Refusal := .next (completeCommand 0x20 loadSweep s)

/-- SET_PERIOD's checks and effects (R43). -/
def setPeriod (p : TakenCommand) (s : State) : Completion :=
  let line := fieldOf p.param0 0 8
  let value := p.param1.toNat
  let x := lineOfNat line
  match firstOutOfRange [line < 2, 100 ≤ value] with
  | some position => refuse s .badParam position
  | none =>
    match (s.engineAt x).control with
    | .stopped | .halted =>
      { state := s.modSweep x fun c => { c with period := value, counter := value }, result := .ok, detail := 0 }
    | .running | .stopping => { state := s.modSweep x fun c => { c with period := value }, result := .ok, detail := 0 }

/-- SET_PERIOD (R43). -/
def execSetPeriod (s : State) : Host.Outcome State Fault Refusal := .next (completeCommand 0x22 setPeriod s)

/-- RESULT1 of SWEEP_NOW: 0 the sweep started, 1 held or deferred, 2 dropped (R45). -/
def sweepNowDetail : CycleStartEffect → Nat
  | .started | .discarded => 0
  | .held | .deferred => 1
  | .dropped => 2

/-- SWEEP_NOW's checks and effects (R45). -/
def sweepNow (p : TakenCommand) (s : State) : Completion :=
  let line := fieldOf p.param0 0 8
  let x := lineOfNat line
  if ¬ line < 2 then refuse s .badParam 1
  else if s.supervision.state = .expired then refuse s .expired 0
  else if (s.engineAt x).control ≠ .running ∨ (s.engineAt x).config.mode ≠ .single then refuse s .wrongState 0
  else
    { state := cycleStart x .sweepNow s, result := .ok,
      detail := sweepNowDetail (cycleStartEffect (s.engineAt x) (s.sweepAt x)) }

/-- SWEEP_NOW (R45). -/
def execSweepNow (s : State) : Host.Outcome State Fault Refusal := .next (completeCommand 0x26 sweepNow s)

/-- The cycle timer's expiry: the counter reloads from the period and a cycle start arrives (R42). A timer that does
not run does not expire (DEDUCED: log 4). -/
def cycleTimerExpiry (x : Line) (s : State) : State :=
  if (s.sweepAt x).timerRunning then cycleStart x .timer (s.modSweep x fun c => { c with counter := c.period }) else s

/-- CYCLE_TIMER_EXPIRY (R42). -/
def execCycleTimerExpiry (x : Line) (s : State) : Host.Outcome State Fault Refusal := .next (cycleTimerExpiry x s)

/-- A falling edge on SYNC: a cycle start while the line is RUNNING in TRIGGERED mode, else ignored (R44; DESIGN
CHOICE: log 27). -/
def syncFallingEdge (x : Line) (s : State) : State :=
  if (s.engineAt x).control = .running ∧ (s.engineAt x).config.mode = .triggered then cycleStart x .sync s else s

/-- SYNC_FALLING_EDGE (R44). -/
def execSyncFallingEdge (x : Line) (s : State) : Host.Outcome State Fault Refusal := .next (syncFallingEdge x s)

end Sys2Proof.Machine
end

