-- ==== Sys2Proof/Machine/Dispatch.lean ====
section
/-! DEFINITION. The dispatch: one arm per command, each one call of its meaning. -/

namespace Sys2Proof.Machine

open Sys2Proof

/-- The effect of a command on everything but the queue. -/
def exec (i : Instr) (s : State) : Host.Outcome State Fault Refusal :=
  match i with
  | .defineStation => Sys2Proof.Machine.execDefineStation s
  | .dropStation => Sys2Proof.Machine.execDropStation s
  | .enableStation => Sys2Proof.Machine.execEnableStation s
  | .disableStation => Sys2Proof.Machine.execDisableStation s
  | .setStationLimits => Sys2Proof.Machine.execSetStationLimits s
  | .loadSweep => Sys2Proof.Machine.execLoadSweep s
  | .setLine => Sys2Proof.Machine.execSetLine s
  | .setPeriod => Sys2Proof.Machine.execSetPeriod s
  | .startLine => Sys2Proof.Machine.execStartLine s
  | .stopLine => Sys2Proof.Machine.execStopLine s
  | .abortLine => Sys2Proof.Machine.execAbortLine s
  | .sweepNow => Sys2Proof.Machine.execSweepNow s
  | .postRequest => Sys2Proof.Machine.execPostRequest s
  | .cancelRequest => Sys2Proof.Machine.execCancelRequest s
  | .flushRequests => Sys2Proof.Machine.execFlushRequests s
  | .collectRequest => Sys2Proof.Machine.execCollectRequest s
  | .commitCall => Sys2Proof.Machine.execCommitCall s
  | .openView => Sys2Proof.Machine.execOpenView s
  | .closeView => Sys2Proof.Machine.execCloseView s
  | .setSupervision => Sys2Proof.Machine.execSetSupervision s
  | .softReset => Sys2Proof.Machine.execSoftReset s
  | .unknownCommand => Sys2Proof.Machine.execUnknownCommand s
  | .commandCollision lanes data => Sys2Proof.Machine.execCommandCollision lanes data s
  | .evtAdvance lanes data => Sys2Proof.Machine.execEvtAdvance lanes data s
  | .intClaim lanes => Sys2Proof.Machine.execIntClaim lanes s
  | .intEos lanes data => Sys2Proof.Machine.execIntEos lanes data s
  | .intSvcWrite lanes data => Sys2Proof.Machine.execIntSvcWrite lanes data s
  | .intStatusRead lanes => Sys2Proof.Machine.execIntStatusRead lanes s
  | .intPendWrite lanes data => Sys2Proof.Machine.execIntPendWrite lanes data s
  | .intLevelsWrite register lanes data => Sys2Proof.Machine.execIntLevelsWrite register lanes data s
  | .supvRefresh lanes data => Sys2Proof.Machine.execSupvRefresh lanes data s
  | .dataRead lanes => Sys2Proof.Machine.execDataRead lanes s
  | .dataWrite lanes data => Sys2Proof.Machine.execDataWrite lanes data s
  | .viewOffsetWrite lanes data => Sys2Proof.Machine.execViewOffsetWrite lanes data s
  | .registerWrite address lanes data => Sys2Proof.Machine.execRegisterWrite address lanes data s
  | .pinResetAssert => Sys2Proof.Machine.execPinResetAssert s
  | .pinResetRelease => Sys2Proof.Machine.execPinResetRelease s
  | .readyAfterReset => Sys2Proof.Machine.execReadyAfterReset s
  | .syncFallingEdge line => Sys2Proof.Machine.execSyncFallingEdge line s
  | .characterReceived line data mark stop => Sys2Proof.Machine.execCharacterReceived line data mark stop s
  | .callFrameSent line => Sys2Proof.Machine.execCallFrameSent line s
  | .abortTailEnd line => Sys2Proof.Machine.execAbortTailEnd line s
  | .answerTimeout line => Sys2Proof.Machine.execAnswerTimeout line s
  | .gapLimitExpiry line => Sys2Proof.Machine.execGapLimitExpiry line s
  | .drainSilenceEnd line => Sys2Proof.Machine.execDrainSilenceEnd line s
  | .guardTimeExpiry line => Sys2Proof.Machine.execGuardTimeExpiry line s
  | .breakDetected line => Sys2Proof.Machine.execBreakDetected line s
  | .cycleTimerExpiry line => Sys2Proof.Machine.execCycleTimerExpiry line s
  | .supervisionExpiry => Sys2Proof.Machine.execSupervisionExpiry s
  | .commandTake lanes data => Sys2Proof.Machine.execCommandTake lanes data s
  | .startBitArrival line => Sys2Proof.Machine.execStartBitArrival line s
  | .pinReturnsHigh line => Sys2Proof.Machine.execPinReturnsHigh line s

end Sys2Proof.Machine
end

