-- ==== Sys2Proof/Machine/Time.lean ====
section
/-! DEFINITION. Time: what one microsecond does to the part's timers, and the expiries it makes due (R42, R53, R81 to
R85, R134, R142). It is the step on an empty queue (DESIGN CHOICE: log 2). -/

namespace Sys2Proof.Machine

/-- Microseconds in a millisecond of the Supervision Timer (R141). -/
def microsPerMs : Nat := 1000

/-- The Supervision Timer after one microsecond: while ARMED the countdown loses 1 at each full millisecond (R142). -/
def SupervisionTimer.tick (t : SupervisionTimer) : SupervisionTimer :=
  match t.state with
  | .armed =>
    if t.subMs + 1 < microsPerMs then { t with subMs := t.subMs + 1 }
    else { t with subMs := 0, countdown := t.countdown - 1 }
  | .off => t
  | .expired => t

/-- The expiry of the countdown, due where the microsecond completes its last millisecond (R142, R143). -/
def SupervisionTimer.due (t : SupervisionTimer) : List Instr :=
  if t.state = .armed ∧ ¬ t.subMs + 1 < microsPerMs ∧ t.countdown ≤ 1 then [.supervisionExpiry] else []

/-- The cycle timer after one microsecond: a running counter counts down to 0; the expiry reloads it (R42). -/
def SweepController.tick (c : SweepController) : SweepController :=
  if c.timerRunning then { c with counter := c.counter - 1 } else c

/-- The expiry of the cycle timer, due where the counter reaches 0 (R42). -/
def SweepController.due (c : SweepController) (x : Line) : List Instr :=
  if c.timerRunning ∧ c.counter ≤ 1 then [.cycleTimerExpiry x] else []

/-- A falling edge after one microsecond: its middle sample comes nearer, and the span it stopped goes on counting, for
a rejected edge leaves every timer as if it had not occurred (R74). -/
def FallingEdge.tick (e : FallingEdge) : FallingEdge :=
  { e with left := e.left - 1, span := e.span.map fun left => left - 1,
           later := e.later.map fun l => { l with left := l.left - 1 } }

/-- The timers of a Line Engine after one microsecond: the frame on the transmit pin and the character being received
move on, the running span, the running break measurement and the wait for middle samples count down (R47, R74, R75, R81,
R85). -/
def LineEngine.counted (g : LineEngine) : LineEngine :=
  { g with sending := g.sending.map fun tx => { tx with elapsed := tx.elapsed + 1 },
           span := g.span.map fun left => left - 1, lowSpan := g.lowSpan.map fun left => left - 1,
           reception := g.reception.map fun r => { r with elapsed := r.elapsed + 1 },
           edge := g.edge.map FallingEdge.tick }

/-- The clock of a reception that begins `shift` microseconds later. -/
def Reception.shifted (r : Reception) (shift : Nat) : Reception :=
  { elapsed := r.elapsed - shift, lastEdge := r.lastEdge - shift }

/-- The middle sample of the first edge finds the pin high: that edge was a glitch (R74). The next edge that still waits
for its own sample stands in its place, with the character it may begin; where none does, no character is being
received. -/
def LineEngine.sampledHigh (g : LineEngine) (e : FallingEdge) : LineEngine :=
  match e.later.filter fun l => decide (0 < l.left) with
  | [] => g.rejected e
  | l :: rest =>
    { g with edge := some { e with left := l.left, overdue := l.overdue, later := rest },
             reception := g.reception.map fun r => r.shifted l.left }

/-- The middle sample of a falling edge, where its time has come: a low pin validates the start bit, a high one rejects
the edge (R74). -/
def LineEngine.sampled (g : LineEngine) (rx : PinLevel) : LineEngine :=
  match g.edge with
  | none => g
  | some e =>
    if 0 < e.left then g
    else
      match rx with
      | .low => { g with edge := none }
      | .high => g.sampledHigh e

/-- A Line Engine after one microsecond, at the level of its receive pin (R47, R74, R81, R85). -/
def LineEngine.tick (g : LineEngine) (rx : PinLevel) : LineEngine := g.counted.sampled rx

/-- One character on the line, in microseconds (R72, R73). -/
def LineConfig.characterTime (c : LineConfig) : Nat := c.spanOf characterBits

/-- The end of the frame, or while abort pending is yes the end of the character being sent (R53, R134). -/
def LineEngine.dueSending (g : LineEngine) (x : Line) : List Instr :=
  match g.sending with
  | none => []
  | some tx =>
    if g.abortPending then (if (tx.elapsed + 1) % g.config.characterTime = 0 then [.abortTailEnd x] else [])
    else if g.config.characterTime * tx.frame.length ≤ tx.elapsed + 1 then [.callFrameSent x]
    else []

/-- The row of the expiry of an exchange state's span (R54, R59, R60, R61). -/
def expiryOf (x : Line) : ExchangeState → List Instr
  | .awaiting => [.answerTimeout x]
  | .receiving => [.gapLimitExpiry x]
  | .draining => [.drainSilenceEnd x]
  | .guarding => [.guardTimeExpiry x]
  | .idle | .calling => []

/-- The expiry of the span of the exchange state, due where the microsecond has run it out (R54, R59, R60, R61). An
expiry held behind a falling edge is due at the sample that rejects the edge, where its span runs again, or where only
edges wait that fell behind the expiry (R74). -/
def LineEngine.dueSpan (after : LineEngine) (x : Line) : List Instr :=
  match after.edge with
  | none => if after.span = some 0 then expiryOf x after.exState else []
  | some e => if e.overdue ∧ e.span = some 0 then expiryOf x (after.stateBefore e) else []

/-- The break limit is reached (R85). -/
def LineEngine.dueBreak (g : LineEngine) (x : Line) : List Instr :=
  match g.lowSpan with
  | none => []
  | some left => if 1 < left then [] else [.breakDetected x]

/-- What a line makes due in one microsecond. -/
def lineDue (s : State) (x : Line) : List Instr :=
  let g := s.engineAt x
  (s.sweepAt x).due x ++ g.dueSending x ++ (g.tick (s.pins.rx.get x)).dueSpan x ++ g.dueBreak x

/-- What one microsecond makes due. -/
def allDue (s : State) : List Instr := s.supervision.due ++ lineDue s .a ++ lineDue s .b

/-- Occurrences of one moment enter the queue in an order the rules leave open: each is put at a free place among those
already there (R61, R82, R140; DEDUCED: log 5). -/
def enqueueDue : List Instr → State → State
  | [], s => s
  | c :: rest, s =>
    let place := s.takeFree.1 % (s.pending.length + 1)
    enqueueDue rest { s.takeFree.2 with pending := s.pending.insertIdx place c }

/-- One microsecond passes: every timer that runs counts it, and the expiries it makes due wait in the queue (DESIGN
CHOICE: log 2). -/
def tick (s : State) : State :=
  enqueueDue (allDue s)
    { s with supervision := s.supervision.tick,
             sweep := { a := s.sweep.a.tick, b := s.sweep.b.tick },
             engine := { a := s.engine.a.tick s.pins.rx.a, b := s.engine.b.tick s.pins.rx.b } }

end Sys2Proof.Machine
end

