-- ==== Sys2Proof/Safety.lean ====
section
/-! DEFINITION. The laws that the manual's rules own, as predicates on the state: what holds in every state the part can
reach, and what every step keeps. -/

namespace Sys2Proof.Machine

/-- The law of the Event Queue (R150): at most 32 records, and losses only while 32 are held; the lost count saturates
at 255 (R147). -/
def EventQueue.lawful (q : EventQueue) : Prop :=
  q.records.length ≤ eventCapacity ∧ (q.lost ≠ 0 → q.records.length = eventCapacity) ∧ q.lost ≤ 255

/-- The law of the level stack (R163): at most 7 levels, strictly rising from bottom to top, all below the service
level. The stack stands top first. -/
def Arbiter.stackLawful (a : Arbiter) : Prop := a.stack.length ≤ 7 ∧ (a.service :: a.stack).Pairwise (· > ·)

/-- The law of the IRQ output (R160): asserted exactly when some source with non-zero level is requesting with a level
above the service level. -/
def irqLawful (s : State) : Prop :=
  s.arbiter.irq = true ↔
    ∃ src, s.arbiter.conditionOf s.events.records.length src = true ∧ s.arbiter.levelOf src ≠ 0
      ∧ s.arbiter.service < s.arbiter.levelOf src

/-- The law of the failure count (R7), with the range of the offline limit (R1). -/
def Station.countLawful (r : Station) : Prop :=
  2 ≤ r.offlineLimit ∧ r.offlineLimit ≤ 15 ∧
    match r.health with
    | .disabled | .online => r.failureCount = 0
    | .probing | .suspect => r.failureCount < r.offlineLimit
    | .offline => r.failureCount = r.offlineLimit

/-- The law of the failure count over the Station Table (R7). -/
def countsLawful (s : State) : Prop := ∀ i, (s.stationAt i).countLawful

/-- The law of station addresses (R15): a defined station's address lies from 1 to 62, and no two defined stations of
one line share one. -/
def addressesLawful (s : State) : Prop :=
  (∀ i, (s.stationAt i).defined = true →
      ∃ b, (s.stationAt i).address = some b ∧ 1 ≤ b.toNat ∧ b.toNat ≤ 62)
    ∧ ∀ i j, (s.stationAt i).defined = true → (s.stationAt j).defined = true →
        (s.stationAt i).line = (s.stationAt j).line → (s.stationAt i).address = (s.stationAt j).address → i = j

/-- A slot of a list of line `x` names a defined station of that line and has a phase below its divider, which is 1 to
16 (R23, R27). -/
def slotLawful (s : State) (x : Line) (slot : Slot) : Prop :=
  (s.stationAt slot.station).defined = true ∧ (s.stationAt slot.station).line = x ∧ slot.divider ≤ 16
    ∧ slot.phase < slot.divider

/-- The law of the sweep lists (R27). -/
def sweepListsLawful (s : State) : Prop :=
  ∀ x, ∀ slot ∈ (s.sweepAt x).live ++ (s.sweepAt x).shadow.getD [], slotLawful s x slot

/-- The law of the request queues (R108): each QUEUED descriptor stands exactly once in the queue of its line and
urgency, and no other descriptor stands in any queue. -/
def queuesLawful (s : State) : Prop :=
  (∀ d, (s.descriptorAt d).state = .queued →
      (s.fifo (s.descriptorAt d).line (s.descriptorAt d).urgency).count d = 1)
    ∧ ∀ x u, ∀ d ∈ s.fifo x u,
        (s.descriptorAt d).state = .queued ∧ (s.descriptorAt d).line = x ∧ (s.descriptorAt d).urgency = u

/-- Half of the law of exchanges and active descriptors (R49): the descriptor of a line's exchange in flight is ACTIVE
and of that line. -/
def exchangesLawful (s : State) : Prop :=
  ∀ x e d, (s.engineAt x).exchange = some e → e.descriptor = some d →
    (s.descriptorAt d).state = .active ∧ (s.descriptorAt d).line = x

/-- Driver enable is asserted, and a frame is being sent, exactly in CALLING (R86); no exchange is in flight in IDLE
(R48), and none in flight means IDLE or GUARD (R48, R61). -/
def LineEngine.driverLawful (g : LineEngine) : Prop :=
  (g.driverEnable = true ↔ g.exState = .calling) ∧ (g.sending.isSome = true ↔ g.exState = .calling)
    ∧ (g.exState = .idle → g.exchange = none) ∧ (g.exchange = none → g.exState = .idle ∨ g.exState = .guarding)

/-- The law of attempts on a line, as far as the exchange record shows it (R63): no more attempts made than allowed, at
least one allowed, and in GUARD an exchange whose attempt has no outcome yet has made none, in DRAINING it has one
recorded (R49, R60). -/
def LineEngine.attemptsLawful (g : LineEngine) : Prop :=
  ∀ e, g.exchange = some e →
    e.made ≤ e.allowed ∧ 1 ≤ e.allowed ∧ (g.exState = .guarding → e.outcome = none → e.made = 0)
      ∧ (g.exState = .draining → e.outcome ≠ none)

/-- What a line at rest shows: a STOPPED or HALTED line has sweep state INACTIVE, no pending start, the cycle timer
stopped and MARK low (R33, R46), and IDLE unless a safe call is in flight on it (R48, R145). -/
def restLawful (s : State) (x : Line) : Prop :=
  (s.engineAt x).control = .stopped ∨ (s.engineAt x).control = .halted →
    (s.sweepAt x).state = .inactive ∧ (s.sweepAt x).pendingStart = false ∧ (s.sweepAt x).timerRunning = false
      ∧ (s.sweepAt x).mark = false
      ∧ ((s.engineAt x).windDown = true ∧ (s.engineAt x).control = .stopped ∨ (s.engineAt x).exState = .idle)

/-- The laws of the two lines; wind-down runs only while the Supervision Timer is EXPIRED (R141, R143). -/
def linesLawful (s : State) : Prop :=
  ∀ x, (s.engineAt x).driverLawful ∧ (s.engineAt x).attemptsLawful ∧ restLawful s x
    ∧ ((s.engineAt x).windDown = true → s.supervision.state = .expired)

/-! ### Vocabulary of the claims about commands -/

/-- The arbiter with IRQ decided anew at a count of event records (R160). -/
def Arbiter.settled (a : Arbiter) (count : Nat) : Arbiter := { a with irq := a.irqDecision count }

/-- The state after a command's completion with this result and detail: RESULT0, RESULT1, DONE, the COMMAND source
pending and IRQ decided anew (R182, R160). -/
def State.completed (s : State) (result : CommandResult) (detail : Nat) : State :=
  { s with command := { s.command with state := .done, result0 := wordOf (commandResultCode result),
                                       result1 := wordOf detail },
           arbiter := ({ s.arbiter with pendingCommand := true } : Arbiter).settled s.events.records.length }

/-- The completions of the commands but SOFT_RESET and UNKNOWN_COMMAND, each with its command's code (R189). -/
def completions : List (Instr × Byte) :=
  [(.defineStation, 0x10), (.dropStation, 0x11), (.enableStation, 0x12), (.disableStation, 0x13),
    (.setStationLimits, 0x14), (.loadSweep, 0x20), (.setLine, 0x21), (.setPeriod, 0x22), (.startLine, 0x23),
    (.stopLine, 0x24), (.abortLine, 0x25), (.sweepNow, 0x26), (.postRequest, 0x30), (.cancelRequest, 0x31),
    (.flushRequests, 0x32), (.collectRequest, 0x33), (.commitCall, 0x40), (.openView, 0x41), (.closeView, 0x42),
    (.setSupervision, 0x50)]

end Sys2Proof.Machine
end

