-- ==== Sys2Proof/Certificates/Slice0/Obligations.lean ====
section
/-! DEFINITION. The statements for the provers: what the numbered rules of the manual say the commands do, and the laws
that every step keeps. `State.completed` is the state after a command's completion with a result and a detail (R182). -/

section

open Sys2Proof Sys2Proof.Machine

/-! ### The queue, time and reset -/

/-- A step takes the command at the front of the queue and carries it out with the queue's rest. -/
def Obligations.StepRunsTheFrontCommand : Prop :=
  ∀ (c : Instr) (rest : List Instr) (s : State),
    step { s with pending := c :: rest } = exec c { s with pending := rest }

/-- Every command ends in a next state and leaves the queue as it finds it (the model's form: logs 1 and 2). -/
def Obligations.CommandsEndAndLeaveTheQueue : Prop :=
  ∀ (c : Instr) (s : State), ∃ t, exec c s = .next t ∧ t.pending = s.pending

/-- The model's passing of time (log 2): a step on an empty queue is one microsecond. A running cycle timer counts down
(R42), an ARMED countdown loses 1 at the end of a millisecond (R142), the frame on the transmit pin moves on, the span
of the exchange state, the break measurement and the wait for a middle sample count down, and the character being
received moves on (R75). The sample of a falling edge validates its start bit on a low pin; on a high pin it rejects the
edge, and either the span runs on as if no edge had occurred, or the next edge whose own sample is still to come stands
in its place (R74, log 11). What then waits in the queue: the expiries at 0, one held behind a rejected edge at its
sample unless an edge that fell before it still waits (R54, R59, R60, R61, R74), BREAK_DETECTED at the break limit
(R85), the end of the frame (R53) or of an abort's character (R134); nothing else, and each once. -/
def Obligations.TimersCountOnAnEmptyQueue : Prop :=
  ∀ (s : State), s.pending = [] → ∃ t, step s = .next t
    ∧ t = { s with pending := t.pending, supervision := t.supervision, sweep := t.sweep, engine := t.engine,
                   freeCount := t.freeCount }
    ∧ (∀ x,
      let g := s.engineAt x
      let c := s.sweepAt x
      let character := 11 * (g.config.divisor + 1)
      let down (span : Option Nat) : Option Nat := span.map fun left => left - 1
      let counted : LineEngine :=
        { g with span := down g.span, lowSpan := down g.lowSpan,
                 reception := g.reception.map fun r => { r with elapsed := r.elapsed + 1 },
                 sending := g.sending.map fun tx => { tx with elapsed := tx.elapsed + 1 } }
      let before (u : LineEngine) (e : FallingEdge) : ExchangeState :=
        if e.awaited = true ∧ u.exState = .receiving then .awaiting else u.exState
      t.sweepAt x = { c with counter := if c.timerRunning then c.counter - 1 else c.counter }
        ∧ (.cycleTimerExpiry x ∈ t.pending ↔ c.timerRunning = true ∧ c.counter ≤ 1)
        ∧ (g.edge = none → t.engineAt x = counted)
        ∧ (∀ e, g.edge = some e →
          let ticked : FallingEdge :=
            { e with left := e.left - 1, span := down e.span,
                     later := e.later.map fun l => { l with left := l.left - 1 } }
          (1 < e.left → t.engineAt x = { counted with edge := some ticked })
          ∧ (e.left ≤ 1 → s.pins.rx.get x = .low → t.engineAt x = { counted with edge := none })
          ∧ (e.left ≤ 1 → s.pins.rx.get x = .high →
            ((∀ l ∈ e.later, l.left ≤ 1) →
              t.engineAt x =
                { counted with edge := none, reception := none, span := down e.span, exState := before g e })
            ∧ ∀ gone l rest, e.later = gone ++ l :: rest → (∀ k ∈ gone, k.left ≤ 1) → 1 < l.left →
              (∀ k ∈ rest, 1 < k.left) →
              t.engineAt x =
                { counted with
                  edge := some { ticked with
                    left := l.left - 1, overdue := l.overdue,
                    later := rest.map fun k => { k with left := k.left - 1 } },
                  reception := g.reception.map fun r =>
                    { elapsed := r.elapsed + 1 - (l.left - 1),
                      lastEdge := r.lastEdge - (l.left - 1) } }))
        ∧ (∀ state expiry, (state, expiry) ∈ [(ExchangeState.awaiting, Instr.answerTimeout x),
            (.receiving, .gapLimitExpiry x), (.draining, .drainSilenceEnd x), (.guarding, .guardTimeExpiry x)] →
          let u := t.engineAt x
          (expiry ∈ t.pending ↔ u.edge = none ∧ u.exState = state ∧ u.span = some 0
            ∨ ∃ e, u.edge = some e ∧ e.overdue = true ∧ e.span = some 0 ∧ before u e = state))
        ∧ (.breakDetected x ∈ t.pending ↔ ∃ left, g.lowSpan = some left ∧ left ≤ 1)
        ∧ (.callFrameSent x ∈ t.pending ↔
          g.abortPending = false ∧ ∃ tx, g.sending = some tx ∧ character * tx.frame.length ≤ tx.elapsed + 1)
        ∧ (.abortTailEnd x ∈ t.pending ↔
          g.abortPending = true ∧ ∃ tx, g.sending = some tx ∧ (tx.elapsed + 1) % character = 0))
    ∧ (s.supervision.state = .armed →
      t.supervision =
          (if s.supervision.subMs + 1 < 1000 then { s.supervision with subMs := s.supervision.subMs + 1 }
           else { s.supervision with subMs := 0, countdown := s.supervision.countdown - 1 })
        ∧ (.supervisionExpiry ∈ t.pending ↔ 1000 ≤ s.supervision.subMs + 1 ∧ s.supervision.countdown ≤ 1))
    ∧ (s.supervision.state ≠ .armed → t.supervision = s.supervision ∧ .supervisionExpiry ∉ t.pending)
    ∧ t.pending.Nodup
    ∧ ∀ c ∈ t.pending, c = .supervisionExpiry ∨ ∃ x, c ∈ [Instr.cycleTimerExpiry x, .answerTimeout x,
        .gapLimitExpiry x, .drainSilenceEnd x, .guardTimeExpiry x, .breakDetected x, .callFrameSent x, .abortTailEnd x]

/-- The values of the blocks after reset, as the tables of their rules give them, with the Data Store's buffers and
build areas (R88, R26) and the receive buffer (R47, R55); READY is 1 (R187). Of fields that are the model's own it
says: the phase `subMs` at 0 (log 7), the receive position at 0, no span, measurement, middle sample or snapshot. -/
def Obligations.ResetValues : Prop :=
  (∀ i, State.reset.stationAt i =
      { defined := false, line := .a, address := none, functionCode := 0, retryLimit := 0, offlineLimit := 2,
        probeInterval := 1, health := .disabled, failureCount := 0, probeCountdown := 0, lastOutcome := none,
        lastStatus := none, alertLatched := false, answerSequence := 0, overtakenCount := 0, commitPending := false,
        publishPending := false })
    ∧ (∀ x, State.reset.sweepAt x =
      { live := [], shadow := none, count := 0, firstSweep := false, state := .inactive, pointer := 1, burst := 0,
        executed := 0, skipped := 0, normalServed := false, exchangeTaken := false, pendingStart := false,
        period := 100, counter := 100, timerRunning := false, mark := false })
    ∧ (∀ x, (State.reset.engineAt x).control = .stopped ∧ (State.reset.engineAt x).configured = false
      ∧ (State.reset.engineAt x).haltCause = .noCause ∧ (State.reset.engineAt x).abortPending = false
      ∧ (State.reset.engineAt x).windDown = false ∧ (State.reset.engineAt x).exState = .idle
      ∧ (State.reset.engineAt x).exchange = none ∧ (State.reset.engineAt x).driverEnable = false
      ∧ (State.reset.engineAt x).transmitLevel = true ∧ (State.reset.engineAt x).exchanges = 0
      ∧ (State.reset.engineAt x).failed = 0 ∧ (State.reset.engineAt x).stray = 0
      ∧ (State.reset.engineAt x).deferredOverruns = 0 ∧ (State.reset.engineAt x).droppedOverruns = 0
      ∧ (State.reset.engineAt x).config =
        { divisor := 0, answerTimeout := 22, gapLimit := 1, guardTime := 22, mode := .single, urgentBurst := 1,
          sweepEndEnable := false, markEnable := false, safeCallEnable := false }
      ∧ (State.reset.engineAt x).buffer =
        { position := 0, echo := 0, status := 0, declared := 0, stored := 0, payload := Vector.replicate 32 0,
          check := 0 }
      ∧ (State.reset.engineAt x).sending = none ∧ (State.reset.engineAt x).span = none
      ∧ (State.reset.engineAt x).reception = none ∧ (State.reset.engineAt x).lowSpan = none
      ∧ (State.reset.engineAt x).edge = none)
    ∧ (∀ i (half : CallBuffer),
        half = (State.reset.callPairAt i).live ∨ half = (State.reset.callPairAt i).staged →
      half = { length := 0, bytes := Vector.replicate 32 0 })
    ∧ (∀ i (half : AnswerBuffer),
        half = (State.reset.answerPairAt i).published ∨ half = (State.reset.answerPairAt i).spare →
      half = { valid := false, length := 0, status := 0, stamp := 0, sequence := 0, bytes := Vector.replicate 32 0 })
    ∧ (∀ d, State.reset.requestCallAt d = { length := 0, bytes := Vector.replicate 32 0 }
      ∧ State.reset.requestAnswerAt d =
        { valid := false, length := 0, status := 0, stamp := 0, bytes := Vector.replicate 32 0 })
    ∧ (∀ x, State.reset.store.safeCalls.get x = { functionCode := 0, length := 0, bytes := Vector.replicate 32 0 }
      ∧ State.reset.store.builds.get x = { length := 0, slotBytes := Vector.replicate 144 0 })
    ∧ (∀ d, State.reset.descriptorAt d =
      { state := .free, tag := 0, target := none, line := .a, functionCode := 0, urgency := .normal, answerMax := 0,
        cancelRequested := false, attemptsUsed := 0, result := none, stamp := none })
    ∧ (∀ x u, State.reset.fifo x u = [])
    ∧ State.reset.events = { records := [], lost := 0 }
    ∧ State.reset.arbiter =
      { levelSupervision := 0, levelLineA := 0, levelLineB := 0, levelEvents := 0, levelCommand := 0,
        pendingSupervision := false, pendingLineA := false, pendingLineB := false, pendingCommand := false,
        threshold := 1, service := 0, stack := [], eosError := false, irq := false }
    ∧ State.reset.supervision = { state := .off, period := 0, countdown := 0, subMs := 0 }
    ∧ State.reset.port.ready = true ∧ State.reset.port.view = none ∧ State.reset.port.offset = 0
    ∧ State.reset.port.readAhead = none ∧ State.reset.port.collision = false ∧ State.reset.port.snapshot = []
    ∧ State.reset.command =
      { state := .idle, taken := none, cmd := 0, param0 := 0, param1 := 0, param2 := 0, param3 := 0, result0 := 0,
        result1 := 0 }

/-- The laws of the invariants below hold right after reset. -/
def Obligations.LawsHoldAtReset : Prop :=
  State.reset.events.lawful ∧ State.reset.arbiter.stackLawful ∧ irqLawful State.reset ∧ countsLawful State.reset
    ∧ addressesLawful State.reset ∧ sweepListsLawful State.reset ∧ queuesLawful State.reset
    ∧ exchangesLawful State.reset ∧ linesLawful State.reset

/-! ### The laws every step keeps -/

/-- The law of the Event Queue (R150): never more than 32 records, and a lost count above 0 only while it holds 32. -/
def Obligations.EventQueueLawKept : Prop := ∀ s t, step s = .next t → s.events.lawful → t.events.lawful

/-- The law of the level stack (R163): at most 7 levels, strictly rising from bottom to top, all below the service
level. -/
def Obligations.LevelStackLawKept : Prop := ∀ s t, step s = .next t → s.arbiter.stackLawful → t.arbiter.stackLawful

/-- The law of the IRQ output (R160): asserted exactly when some source with non-zero level is requesting with a level
above the service level. -/
def Obligations.IrqLawKept : Prop := ∀ s t, step s = .next t → irqLawful s → irqLawful t

/-- The law of the failure count (R7): 0 in ONLINE and DISABLED, the offline limit in OFFLINE, below it in PROBING and
SUSPECT. -/
def Obligations.FailureCountLawKept : Prop := ∀ s t, step s = .next t → countsLawful s → countsLawful t

/-- The law of station addresses (R15). -/
def Obligations.AddressLawKept : Prop := ∀ s t, step s = .next t → addressesLawful s → addressesLawful t

/-- The law of the sweep lists (R27): every slot of a live or shadow list names a defined station of that line and has a
phase below its divider. -/
def Obligations.SweepListLawKept : Prop := ∀ s t, step s = .next t → sweepListsLawful s → sweepListsLawful t

/-- The law of the request queues (R108), with the half of R49's law that carries it: the descriptor of an exchange in
flight is ACTIVE and of its line. -/
def Obligations.RequestQueueLawKept : Prop :=
  ∀ s t, step s = .next t → queuesLawful s → exchangesLawful s → queuesLawful t ∧ exchangesLawful t

/-- The laws of the lines: driver enable and the frame on the transmit pin exactly in CALLING (R86), attempts made
within the attempts allowed (R63), and a STOPPED or HALTED line INACTIVE with its timer stopped, no pending start and
MARK low (R33, R46). -/
def Obligations.LineLawsKept : Prop := ∀ s t, step s = .next t → linesLawful s → linesLawful t

/-! ### Records, completions and refusals -/

/-- A record posted (R149, R150, R155): stored at the tail below 32 records; else nothing held changes and the lost
count increases, saturating at 255; the count goes to the Arbiter, which decides IRQ anew. A write to EVT_ADVANCE
(R152, R153): ignored by an empty queue; else the head is removed, and from a full queue with losses a LOST record
with the lost count is appended and the count cleared. Nothing else changes. -/
def Obligations.EventQueueStoresAndRemoves : Prop :=
  (∀ (r : EventRecord) (s : State),
    post r s = { s with events := (post r s).events, arbiter := s.arbiter.settled (post r s).events.records.length }
      ∧ (s.events.records.length < 32 →
        (post r s).events.records = s.events.records ++ [r] ∧ (post r s).events.lost = s.events.lost)
      ∧ (32 ≤ s.events.records.length →
        (post r s).events.records = s.events.records
          ∧ (post r s).events.lost = if s.events.lost < 255 then s.events.lost + 1 else s.events.lost))
    ∧ ∀ (s : State) (lanes : Lanes) (data : Word), windowOpen s = true → ∃ t, exec (.evtAdvance lanes data) s = .next t
      ∧ t = { s with events := t.events, arbiter := s.arbiter.settled t.events.records.length }
      ∧ (s.events.records = [] → t.events = s.events)
      ∧ ∀ head rest, s.events.records = head :: rest →
        (rest.length = 31 → 0 < s.events.lost →
          t.events.records = rest ++ [{ kind := .lost, line := none, index := none, tag := none, code := none,
                                        aux := some (byteOf s.events.lost), stamp := 0 }]
            ∧ t.events.lost = 0)
        ∧ (rest.length ≠ 31 ∨ s.events.lost = 0 → t.events.records = rest ∧ t.events.lost = s.events.lost)

/-- A refused command changes no state but RESULT0, RESULT1, the command state and the COMMAND pending flag (R182,
R184): a completion whose result is neither OK nor OK_DEFERRED leaves all else; while no command with its code is in
progress a completion changes nothing (the model's choice, log 3). -/
def Obligations.RefusedCommandsChangeNothing : Prop :=
  ∀ c code, (c, code) ∈ completions → ∀ s : State,
    (s.inProgress code = none → exec c s = .next s)
      ∧ ∀ p, s.inProgress code = some p → ∃ t, exec c s = .next t
        ∧ t.command.state = .done ∧ t.arbiter.pendingCommand = true
        ∧ (t.command.result0 ≠ 0x0000 → t.command.result0 ≠ 0x0001 →
          ∃ result detail, t = s.completed result detail)

/-! ### Station commands -/

/-- DEFINE_STATION that passes its checks (R15): the record is set from the parameters, the station's call and answer
buffers are cleared, and with enable yes STATION_STATE is posted from DISABLED to PROBING; RESULT0 OK. That which buffer
of each pair is live, staged, published or spare stays as it was is the model's choice (log 23). -/
def Obligations.DefineStationDefines : Prop :=
  ∀ (s : State) (p : TakenCommand) (i : Fin 32) (x : Line) (enable : Bool), s.inProgress 0x10 = some p →
    fieldOf p.param0 0 8 = i.val → hiByte p.param0 = lineCode x →
    1 ≤ (loByte p.param1).toNat → (loByte p.param1).toNat ≤ 62 → (loByte p.param2).toNat ≤ 3 →
    2 ≤ (hiByte p.param2).toNat → (hiByte p.param2).toNat ≤ 15 → 1 ≤ (loByte p.param3).toNat →
    hiByte p.param3 = yesNo enable → (s.stationAt i).defined = false →
    (∀ j, (s.stationAt j).defined = true → (s.stationAt j).line = x →
      (s.stationAt j).address ≠ some (loByte p.param1)) →
    let d := ((s.setStation i
      { defined := true, line := x, address := some (loByte p.param1), functionCode := hiByte p.param1,
        retryLimit := (loByte p.param2).toNat, offlineLimit := (hiByte p.param2).toNat,
        probeInterval := (loByte p.param3).toNat, health := if enable then .probing else .disabled,
        failureCount := 0, probeCountdown := 0, lastOutcome := none, lastStatus := none, alertLatched := false,
        answerSequence := 0, overtakenCount := 0, commitPending := false, publishPending := false }).setCallPair i
      { s.callPairAt i with first := CallBuffer.reset, second := CallBuffer.reset }).setAnswerPair i
      { s.answerPairAt i with first := AnswerBuffer.reset, second := AnswerBuffer.reset }
    exec .defineStation s =
      .next ((if enable then
          post { kind := .stationState, line := some x, index := some i.val, tag := none, code := some 0x01,
                 aux := some 0x00, stamp := (s.sweepAt x).count } d
        else d).completed .ok 0)

/-- DROP_STATION of a defined station that no list, no QUEUED or ACTIVE descriptor and no open view names (R16): the
record returns to the values of reset, and STATION_STATE is posted where its health was not DISABLED. -/
def Obligations.DropStationDrops : Prop :=
  ∀ (s : State) (p : TakenCommand) (i : Fin 32), s.inProgress 0x11 = some p → fieldOf p.param0 0 8 = i.val →
    (s.stationAt i).defined = true →
    (∀ slot ∈ (s.sweepAt (s.stationAt i).line).live ++ (s.sweepAt (s.stationAt i).line).shadow.getD [],
      slot.station ≠ i) →
    (∀ d, (s.descriptorAt d).target = some (.station i) →
      (s.descriptorAt d).state ≠ .queued ∧ (s.descriptorAt d).state ≠ .active) →
    s.port.view ≠ some (.stationCall i) → s.port.view ≠ some (.stationAnswer i) →
    s.port.view ≠ some (.stationInfo i) →
    exec .dropStation s =
      .next ((if (s.stationAt i).health = .disabled then s.setStation i Station.reset
        else
          post { kind := .stationState, line := some (s.stationAt i).line, index := some i.val, tag := none,
                 code := some 0x00, aux := some (healthCode (s.stationAt i).health),
                 stamp := (s.sweepAt (s.stationAt i).line).count } (s.setStation i Station.reset)).completed .ok 0)

/-- ENABLE_STATION (R17): a DISABLED station becomes PROBING with failure count 0 and STATION_STATE is posted; one in
another health is refused WRONG_STATE, an undefined one NOT_DEFINED. -/
def Obligations.EnableStationProbes : Prop :=
  ∀ (s : State) (p : TakenCommand) (i : Fin 32), s.inProgress 0x12 = some p → fieldOf p.param0 0 8 = i.val →
    ((s.stationAt i).defined = true → (s.stationAt i).health = .disabled →
      exec .enableStation s =
        .next ((post { kind := .stationState, line := some (s.stationAt i).line, index := some i.val, tag := none,
                       code := some 0x01, aux := some 0x00, stamp := (s.sweepAt (s.stationAt i).line).count }
          (s.setStation i { s.stationAt i with health := .probing, failureCount := 0 })).completed .ok 0))
    ∧ ((s.stationAt i).defined = true → (s.stationAt i).health ≠ .disabled →
      exec .enableStation s = .next (s.completed .wrongState 0))
    ∧ ((s.stationAt i).defined = false → exec .enableStation s = .next (s.completed .notDefined 0))

/-- DISABLE_STATION (R18): a station not DISABLED becomes DISABLED with failure count 0 and STATION_STATE is posted; its
queued descriptors leave their FIFOs and are completed STATION_DISABLED, urgent before normal, head to tail; RESULT1 is
their number. -/
def Obligations.DisableStationDisables : Prop :=
  ∀ (s : State) (p : TakenCommand) (i : Fin 32), s.inProgress 0x13 = some p → fieldOf p.param0 0 8 = i.val →
    (s.stationAt i).defined = true →
    let x := (s.stationAt i).line
    let named : Fin 16 → Bool := fun d => decide ((s.descriptorAt d).target = some (.station i))
    let queued := (s.fifo x .urgent).filter named ++ (s.fifo x .normal).filter named
    let moved := if (s.stationAt i).health = .disabled then s
      else post { kind := .stationState, line := some x, index := some i.val, tag := none, code := some 0x00,
                  aux := some (healthCode (s.stationAt i).health), stamp := (s.sweepAt x).count }
        (s.setStation i { s.stationAt i with health := .disabled, failureCount := 0 })
    exec .disableStation s =
      .next ((completeAllQueued .stationDisabled queued
        ((moved.setFifo x .urgent ((s.fifo x .urgent).filter fun d => !named d)).setFifo x .normal
          ((s.fifo x .normal).filter fun d => !named d))).completed .ok queued.length)

/-- SET_STATION_LIMITS in range on a defined station (R20, R21): the limits are stored; a PROBING or SUSPECT station
whose count reaches the new limit becomes OFFLINE with its countdown loaded and STATION_STATE posted; an OFFLINE one
takes the new limit as its count. -/
def Obligations.SetStationLimitsActs : Prop :=
  ∀ (s : State) (p : TakenCommand) (i : Fin 32), s.inProgress 0x14 = some p → fieldOf p.param0 0 8 = i.val →
    (s.stationAt i).defined = true → (loByte p.param1).toNat ≤ 3 → 2 ≤ (loByte p.param2).toNat →
    (loByte p.param2).toNat ≤ 15 → 1 ≤ (loByte p.param3).toNat →
    let r := s.stationAt i
    let limit := (loByte p.param2).toNat
    let stored := { r with retryLimit := (loByte p.param1).toNat, offlineLimit := limit,
                           probeInterval := (loByte p.param3).toNat }
    exec .setStationLimits s =
      .next (if (r.health = .probing ∨ r.health = .suspect) ∧ limit ≤ r.failureCount then
          (post { kind := .stationState, line := some r.line, index := some i.val, tag := none, code := some 0x04,
                  aux := some (healthCode r.health), stamp := (s.sweepAt r.line).count }
            (s.setStation i { stored with health := .offline, failureCount := limit,
                                          probeCountdown := (loByte p.param3).toNat })).completed .ok 0
        else if r.health = .offline then (s.setStation i { stored with failureCount := limit }).completed .ok 0
        else (s.setStation i stored).completed .ok 0)

/-- The refusals of the station commands in the order of their rules (R3, R15 to R18, R20): BAD_PARAM with the
position of the first parameter out of range; NOT_DEFINED; DEFINE_STATION of a defined record WRONG_STATE, and of an
address that another defined station of the line holds DUPLICATE_ADDRESS with its index; DROP_STATION of a station in
use IN_USE with the first reason: a list of its line, a QUEUED or ACTIVE descriptor, the open view. -/
def Obligations.StationCommandsRefuse : Prop :=
  ∀ (s : State) (p : TakenCommand),
    (∀ c code, (c, code) ∈ [(Instr.dropStation, (0x11 : Byte)), (.enableStation, 0x12), (.disableStation, 0x13),
        (.commitCall, 0x40)] → s.inProgress code = some p →
      (32 ≤ fieldOf p.param0 0 8 → exec c s = .next (s.completed .badParam 1))
      ∧ ∀ i : Fin 32, fieldOf p.param0 0 8 = i.val → (s.stationAt i).defined = false →
        exec c s = .next (s.completed .notDefined 0))
    ∧ (s.inProgress 0x14 = some p →
      let inRange : Nat → Prop := fun position => match position with
        | 1 => (loByte p.param0).toNat < 32
        | 2 => (loByte p.param1).toNat ≤ 3
        | 3 => 2 ≤ (loByte p.param2).toNat ∧ (loByte p.param2).toNat ≤ 15
        | 4 => 1 ≤ (loByte p.param3).toNat
        | _ => True
      (∀ position, (∀ k, k < position → inRange k) → ¬ inRange position →
        exec .setStationLimits s = .next (s.completed .badParam position))
      ∧ ∀ i : Fin 32, fieldOf p.param0 0 8 = i.val → (∀ k, inRange k) → (s.stationAt i).defined = false →
        exec .setStationLimits s = .next (s.completed .notDefined 0))
    ∧ (s.inProgress 0x10 = some p →
      let inRange : Nat → Prop := fun position => match position with
        | 1 => (loByte p.param0).toNat < 32
        | 2 => (hiByte p.param0).toNat < 2
        | 3 => 1 ≤ (loByte p.param1).toNat ∧ (loByte p.param1).toNat ≤ 62
        | 5 => (loByte p.param2).toNat ≤ 3
        | 6 => 2 ≤ (hiByte p.param2).toNat ∧ (hiByte p.param2).toNat ≤ 15
        | 7 => 1 ≤ (loByte p.param3).toNat
        | 8 => (hiByte p.param3).toNat < 2
        | _ => True
      (∀ position, (∀ k, k < position → inRange k) → ¬ inRange position →
        exec .defineStation s = .next (s.completed .badParam position))
      ∧ ∀ (i : Fin 32) (x : Line), fieldOf p.param0 0 8 = i.val → hiByte p.param0 = lineCode x → (∀ k, inRange k) →
        let holds (j : Fin 32) : Prop := (s.stationAt j).defined = true ∧ (s.stationAt j).line = x
          ∧ (s.stationAt j).address = some (loByte p.param1)
        ((s.stationAt i).defined = true → exec .defineStation s = .next (s.completed .wrongState 0))
        ∧ ∀ j, (s.stationAt i).defined = false → holds j → (∀ k, holds k → k = j) →
          exec .defineStation s = .next (s.completed .duplicateAddress j.val))
    ∧ ∀ i : Fin 32, s.inProgress 0x11 = some p → fieldOf p.param0 0 8 = i.val → (s.stationAt i).defined = true →
      let listed : Prop := ∃ slot ∈ (s.sweepAt (s.stationAt i).line).live
        ++ (s.sweepAt (s.stationAt i).line).shadow.getD [], slot.station = i
      let asked : Prop := ∃ d, (s.descriptorAt d).target = some (.station i)
        ∧ ((s.descriptorAt d).state = .queued ∨ (s.descriptorAt d).state = .active)
      let viewed : Prop := s.port.view = some (.stationCall i) ∨ s.port.view = some (.stationAnswer i)
        ∨ s.port.view = some (.stationInfo i)
      (listed → exec .dropStation s = .next (s.completed .inUse 1))
      ∧ (¬ listed → asked → exec .dropStation s = .next (s.completed .inUse 2))
      ∧ (¬ listed → ¬ asked → viewed → exec .dropStation s = .next (s.completed .inUse 3))

/-! ### Sweep lists and the cycle -/

/-- LOAD_SWEEP of a valid build area (R27, R28): the first length slots become the live list of a STOPPED or HALTED
line, which discards the shadow, or the shadow of a RUNNING or STOPPING one; RESULT1 is the length. -/
def Obligations.LoadSweepLoads : Prop :=
  ∀ (s : State) (p : TakenCommand) (x : Line), s.inProgress 0x20 = some p → loByte p.param0 = lineCode x →
    let b := s.store.builds.get x
    b.length.toNat ≤ 48 →
    (∀ k, k < b.length.toNat → b.slotByte (3 * k) < 32
      ∧ (s.stationAt (stationOfNat (b.slotByte (3 * k)))).defined = true
      ∧ (s.stationAt (stationOfNat (b.slotByte (3 * k)))).line = x
      ∧ 1 ≤ b.slotByte (3 * k + 1) ∧ b.slotByte (3 * k + 1) ≤ 16
      ∧ b.slotByte (3 * k + 2) < b.slotByte (3 * k + 1)) →
    let list := (List.range b.length.toNat).map fun k =>
      ({ station := stationOfNat (b.slotByte (3 * k)), divider := b.slotByte (3 * k + 1),
         phase := b.slotByte (3 * k + 2) } : Slot)
    ((s.engineAt x).control = .stopped ∨ (s.engineAt x).control = .halted →
      exec .loadSweep s =
        .next ((s.modSweep x fun c => { c with live := list, shadow := none }).completed .ok b.length.toNat))
    ∧ ((s.engineAt x).control = .running ∨ (s.engineAt x).control = .stopping →
      exec .loadSweep s =
        .next ((s.modSweep x fun c => { c with shadow := some list }).completed .okDeferred b.length.toNat))

/-- LOAD_SWEEP refused BAD_PARAM (R27): RESULT1 0 for the line, 49 for a length above 48, else the number of the first
slot with a fault: an index above 31, an undefined station, a station of the other line, a divider outside 1 to 16 or a
phase not below it. -/
def Obligations.LoadSweepRefusesTheFirstFault : Prop :=
  ∀ (s : State) (p : TakenCommand), s.inProgress 0x20 = some p →
    (2 ≤ (loByte p.param0).toNat → exec .loadSweep s = .next (s.completed .badParam 0))
    ∧ ∀ x, loByte p.param0 = lineCode x →
      let b := s.store.builds.get x
      let valid : Nat → Prop := fun k => b.slotByte (3 * k) < 32
        ∧ (s.stationAt (stationOfNat (b.slotByte (3 * k)))).defined = true
        ∧ (s.stationAt (stationOfNat (b.slotByte (3 * k)))).line = x
        ∧ 1 ≤ b.slotByte (3 * k + 1) ∧ b.slotByte (3 * k + 1) ≤ 16
        ∧ b.slotByte (3 * k + 2) < b.slotByte (3 * k + 1)
      (48 < b.length.toNat → exec .loadSweep s = .next (s.completed .badParam 49))
      ∧ ∀ k, b.length.toNat ≤ 48 → k < b.length.toNat → (∀ j, j < k → valid j) → ¬ valid k →
        exec .loadSweep s = .next (s.completed .badParam (k + 1))

/-- SET_PERIOD (R43): BAD_PARAM with position 1 for the line and 2 for a value below 100; else the period is loaded, on
a STOPPED or HALTED line the counter too. -/
def Obligations.SetPeriodLoads : Prop :=
  ∀ (s : State) (p : TakenCommand), s.inProgress 0x22 = some p →
    (2 ≤ (loByte p.param0).toNat → exec .setPeriod s = .next (s.completed .badParam 1))
    ∧ ∀ x, loByte p.param0 = lineCode x →
      (p.param1.toNat < 100 → exec .setPeriod s = .next (s.completed .badParam 2))
      ∧ (100 ≤ p.param1.toNat → (s.engineAt x).control = .stopped ∨ (s.engineAt x).control = .halted →
        exec .setPeriod s =
          .next ((s.modSweep x fun c => { c with period := p.param1.toNat, counter := p.param1.toNat }).completed
            .ok 0))
      ∧ (100 ≤ p.param1.toNat → (s.engineAt x).control = .running ∨ (s.engineAt x).control = .stopping →
        exec .setPeriod s = .next ((s.modSweep x fun c => { c with period := p.param1.toNat }).completed .ok 0))

/-- A cycle start on a line and what it does (R39, R40), in the order of R39's table: discarded off a RUNNING line or
under wind-down; between sweeps it starts the sweep of a free line and is held behind an exchange; during a sweep it is
held as a DEFERRED overrun; behind a pending start it is DROPPED, each overrun with its record and its counter. -/
def Obligations.CycleStartsActByTheirTable : Prop :=
  ∀ (s : State) (x : Line) (kind : CycleStartKind),
    let g := s.engineAt x
    let c := s.sweepAt x
    let overrun (aux : Byte) : EventRecord :=
      { kind := .overrun, line := some x, index := none, tag := none, code := some (cycleStartCode kind),
        aux := some aux, stamp := c.count }
    (g.control ≠ .running ∨ g.windDown = true → cycleStart x kind s = s)
    ∧ (g.control = .running → g.windDown = false → c.state = .between → c.pendingStart = false → g.exchange = none →
      cycleStart x kind s = sweepAndGive x s)
    ∧ (g.control = .running → g.windDown = false → c.state = .between → c.pendingStart = false → g.exchange ≠ none →
      cycleStart x kind s = s.modSweep x fun c => { c with pendingStart := true })
    ∧ (g.control = .running → g.windDown = false → c.state = .sweeping → c.pendingStart = false →
      cycleStart x kind s =
        post (overrun 0x01) ((s.modSweep x fun c => { c with pendingStart := true }).modEngine x fun g =>
          { g with deferredOverruns := if g.deferredOverruns < 255 then g.deferredOverruns + 1
                                       else g.deferredOverruns }))
    ∧ (g.control = .running → g.windDown = false → c.state ≠ .inactive → c.pendingStart = true →
      cycleStart x kind s =
        post (overrun 0x02) (s.modEngine x fun g =>
          { g with droppedOverruns := if g.droppedOverruns < 255 then g.droppedOverruns + 1
                                      else g.droppedOverruns }))

/-- The sources of cycle starts: the expiry of a running cycle timer, which reloads its counter from the period (R42), a
falling edge on SYNC of a RUNNING line in TRIGGERED mode, ignored elsewhere (R44), and SWEEP_NOW on a RUNNING line in
SINGLE mode, whose RESULT1 says 0 started, 1 held or deferred, 2 dropped (R45). -/
def Obligations.CycleStartSources : Prop :=
  ∀ (s : State) (x : Line),
    ((s.sweepAt x).timerRunning = true →
      exec (.cycleTimerExpiry x) s = .next (cycleStart x .timer (s.modSweep x fun c => { c with counter := c.period })))
    ∧ ((s.engineAt x).control = .running → (s.engineAt x).config.mode = .triggered →
      exec (.syncFallingEdge x) s = .next (cycleStart x .sync s))
    ∧ ((s.engineAt x).control ≠ .running ∨ (s.engineAt x).config.mode ≠ .triggered →
      exec (.syncFallingEdge x) s = .next s)
    ∧ (∀ p, s.inProgress 0x26 = some p → 2 ≤ (loByte p.param0).toNat →
      exec .sweepNow s = .next (s.completed .badParam 1))
    ∧ ∀ p, s.inProgress 0x26 = some p → loByte p.param0 = lineCode x →
      (s.supervision.state = .expired → exec .sweepNow s = .next (s.completed .expired 0))
      ∧ (s.supervision.state ≠ .expired →
        (s.engineAt x).control ≠ .running ∨ (s.engineAt x).config.mode ≠ .single →
        exec .sweepNow s = .next (s.completed .wrongState 0))
      ∧ (s.supervision.state ≠ .expired → (s.engineAt x).control = .running → (s.engineAt x).config.mode = .single →
        (s.engineAt x).windDown = false → (s.sweepAt x).state ≠ .inactive →
        exec .sweepNow s =
          .next ((cycleStart x .sweepNow s).completed .ok
            (if (s.sweepAt x).pendingStart then 2
             else if (s.sweepAt x).state = .sweeping ∨ (s.engineAt x).exchange ≠ none then 1 else 0)))

/-- A sweep start (R24, R29, R30): the count stays at the first sweep and else increases, a present shadow becomes the
live list, pointer, burst, tallies, markers and pending start are cleared, MARK changes where enabled; the line's
engine, the other line and everything else stay. -/
def Obligations.SweepStartSteps : Prop :=
  ∀ (s : State) (x y : Line), y ≠ x →
    let c := s.sweepAt x
    let d := (startSweep x s).sweepAt x
    d.count = (if c.firstSweep then c.count else c.count + 1) ∧ d.firstSweep = false
      ∧ (∀ list, c.shadow = some list → d.live = list) ∧ (c.shadow = none → d.live = c.live) ∧ d.shadow = none
      ∧ d.pointer = 1 ∧ d.burst = 0 ∧ d.executed = 0 ∧ d.skipped = 0 ∧ d.normalServed = false
      ∧ d.exchangeTaken = false ∧ d.pendingStart = false ∧ d.state = .sweeping
      ∧ d.mark = (if (s.engineAt x).config.markEnable then !c.mark else c.mark)
      ∧ d.period = c.period ∧ d.counter = c.counter ∧ d.timerRunning = c.timerRunning
      ∧ (startSweep x s).sweepAt y = s.sweepAt y ∧ startSweep x s = { s with sweep := (startSweep x s).sweep }

/-- Examining slots (R10, R22, R23, R31): behind slots that are not due or whose station is DISABLED, the first due
slot whose station is PROBING, ONLINE or SUSPECT gives its station for a cyclic exchange, and one whose station is
OFFLINE with countdown 0 gives it for a probe and loads the countdown; the due slots passed count as skipped, the one
given as executed, and the burst count returns to 0. A due slot of an OFFLINE station with a countdown above 0 lowers
it by 1 and is skipped; a due slot of a DISABLED station is skipped, and one that is not due is passed over, whether or
not another follows; past the last slot there is no work. A pick inside a sweep takes the
urgent head while the burst count is below the urgent burst, else the slots from the pointer on; without work the
sweep ends, with its SWEEP_END record where enabled and BETWEEN, and the pick goes on there (R32); a sweep that starts
examines its slots first (R30). The work given starts its exchange, in REPEAT mode with the marker set (R36, R49). That
the pointer is 49 past the last slot, and that the marker is set in REPEAT mode alone, are the model's (log 18). -/
def Obligations.ScanExaminesSlotsInOrder : Prop :=
  (∀ (s : State) (x : Line) (passed rest : List Slot) (slot : Slot),
    (∀ q ∈ passed, slotDue q (s.sweepAt x).count = true → (s.stationAt q.station).health = .disabled) →
    slotDue slot (s.sweepAt x).count = true →
    let r := s.stationAt slot.station
    let moved := s.modSweep x fun c =>
      { c with pointer := c.pointer + passed.length + 1,
               skipped := c.skipped + (passed.filter fun q => slotDue q (s.sweepAt x).count).length,
               executed := c.executed + 1, burst := 0 }
    (r.health = .probing ∨ r.health = .online ∨ r.health = .suspect →
      scanSlots x (passed ++ slot :: rest) s = (moved, some (.slot slot.station .cyclic)))
    ∧ (r.health = .offline → r.probeCountdown = 0 →
      scanSlots x (passed ++ slot :: rest) s =
        (moved.setStation slot.station { r with probeCountdown := r.probeInterval },
          some (.slot slot.station .probe))))
    ∧ ∀ (s : State) (x : Line) (slot : Slot) (rest : List Slot),
      (slotDue slot (s.sweepAt x).count = true → (s.stationAt slot.station).health = .offline →
        0 < (s.stationAt slot.station).probeCountdown →
        scanSlots x (slot :: rest) s =
          scanSlots x rest
            ((s.modSweep x fun c => { c with pointer := c.pointer + 1, skipped := c.skipped + 1 }).setStation
              slot.station
              { s.stationAt slot.station with
                probeCountdown := (s.stationAt slot.station).probeCountdown - 1 }))
      ∧ (slotDue slot (s.sweepAt x).count = true → (s.stationAt slot.station).health = .disabled →
        scanSlots x (slot :: rest) s =
          scanSlots x rest (s.modSweep x fun c => { c with pointer := c.pointer + 1, skipped := c.skipped + 1 }))
      ∧ (slotDue slot (s.sweepAt x).count = false →
        scanSlots x (slot :: rest) s = scanSlots x rest (s.modSweep x fun c => { c with pointer := c.pointer + 1 }))
      ∧ scanSlots x [] s = (s.modSweep x fun c => { c with pointer := 49 }, none)
      ∧ (let ended (u : State) : State :=
            State.modSweep
              (if (u.engineAt x).config.sweepEndEnable then
                post { kind := .sweepEnd, line := some x, index := none, tag := none,
                       code := some (byteOf (u.sweepAt x).executed), aux := some (byteOf (u.sweepAt x).skipped),
                       stamp := (u.sweepAt x).count } u
               else u) x fun c => { c with state := .between }
        let c := s.sweepAt x
        let burst := (s.engineAt x).config.urgentBurst
        (c.state = .inactive → pick x s = (s, none))
        ∧ (c.state = .sweeping →
          (∀ d more, s.fifo x .urgent = d :: more → c.burst < burst →
            pick x s =
              (((s.modSweep x fun c => { c with burst := c.burst + 1 }).setFifo x .urgent more).setDescriptor d
                  { s.descriptorAt d with state := .active }, some (.request d)))
          ∧ (s.fifo x .urgent = [] ∨ burst ≤ c.burst → ∀ u work,
            scanSlots x (c.live.drop (c.pointer - 1)) s = (u, work) →
            (∀ w, work = some w → pick x s = (u, some w)) ∧ (work = none → pick x s = pick x (ended u))))
        ∧ (∀ u work, scanSlots x ((startSweep x s).sweepAt x).live (startSweep x s) = (u, work) →
          (∀ w, work = some w → freshSweep x s = (u, some w)) ∧ (work = none → freshSweep x s = pick x (ended u)))
        ∧ giveWork x (s, none) = s
        ∧ (let marked := s.modSweep x fun c =>
            { c with exchangeTaken := if (s.engineAt x).config.mode = .repeating then true else c.exchangeTaken }
          (∀ i kind, giveWork x (s, some (.slot i kind)) = startSlot x i kind marked)
          ∧ ∀ d, giveWork x (s, some (.request d)) = startRequest x d marked)
        ∧ pickAndGive x s = giveWork x (pick x s) ∧ sweepAndGive x s = giveWork x (freshSweep x s))

/-- A pick between sweeps (R34 to R38, R41): the pending start first; then the urgent head; then the normal head, of
which REPEAT takes one a sweep; then nothing, or in REPEAT the next sweep, after a guard time where the sweep and its
service carried no exchange. The markers move in REPEAT mode only, R41 goes before R34, and an urgent request that comes
during the one normal request's exchange is taken before the next sweep (logs 18, 29 and 37). -/
def Obligations.PicksBetweenSweeps : Prop :=
  ∀ (s : State) (x : Line), (s.sweepAt x).state = .between →
    let c := s.sweepAt x
    let repeating := (s.engineAt x).config.mode = .repeating
    let active (d : Fin 16) : Descriptor := { s.descriptorAt d with state := .active }
    (c.pendingStart = true → pick x s = freshSweep x s)
    ∧ (c.pendingStart = false → ∀ d rest, s.fifo x .urgent = d :: rest →
      pick x s = ((s.setFifo x .urgent rest).setDescriptor d (active d), some (.request d)))
    ∧ (c.pendingStart = false → s.fifo x .urgent = [] → ∀ d rest, s.fifo x .normal = d :: rest →
      (¬ repeating → pick x s = ((s.setFifo x .normal rest).setDescriptor d (active d), some (.request d)))
      ∧ (repeating → c.normalServed = false →
        pick x s =
          (((s.modSweep x fun c => { c with normalServed := true }).setFifo x .normal rest).setDescriptor d (active d),
            some (.request d))))
    ∧ (c.pendingStart = false → s.fifo x .urgent = [] →
      (¬ repeating → s.fifo x .normal = [] → pick x s = (s, none))
      ∧ (repeating → s.fifo x .normal = [] ∨ c.normalServed = true →
        (c.exchangeTaken = true → pick x s = freshSweep x s)
        ∧ (c.exchangeTaken = false → pick x s = (enterGuard x s, none))))

/-! ### Lines -/

/-- SET_LINE (R130): BAD_PARAM with the position of the first parameter out of range; in range, on a line neither
RUNNING nor STOPPING and without wind-down, it stores the configuration, loads period and counter with the counter
stopped, clears the five line counters and sets configured; else WRONG_STATE. -/
def Obligations.SetLineConfigures : Prop :=
  ∀ (s : State) (p : TakenCommand), s.inProgress 0x21 = some p →
    let inRange : Nat → Prop := fun position => match position with
      | 1 => fieldOf p.param0 8 2 < 2
      | 3 => 22 ≤ fieldOf p.param1 0 12
      | 4 => 1 ≤ fieldOf p.param2 0 8
      | 5 => 22 ≤ fieldOf p.param2 8 8
      | 7 => 1 ≤ fieldOf p.param0 12 3 ∧ fieldOf p.param0 12 3 ≤ 4
      | 8 => 100 ≤ p.param3.toNat
      | _ => True
    (∀ position, (∀ k, k < position → inRange k) → ¬ inRange position →
      exec .setLine s = .next (s.completed .badParam position))
    ∧ ((∀ k, inRange k) →
      let x := lineOfNat (fieldOf p.param0 8 2)
      (((s.engineAt x).control = .stopped ∨ (s.engineAt x).control = .halted) → (s.engineAt x).windDown = false →
        exec .setLine s =
          .next (((s.modEngine x fun g =>
              { g with configured := true, exchanges := 0, failed := 0, stray := 0, deferredOverruns := 0,
                       droppedOverruns := 0,
                       config :=
                        { divisor := fieldOf p.param0 0 8, answerTimeout := fieldOf p.param1 0 12,
                          gapLimit := fieldOf p.param2 0 8, guardTime := fieldOf p.param2 8 8,
                          mode := modeOfNat (fieldOf p.param0 10 2), urgentBurst := fieldOf p.param0 12 3,
                          sweepEndEnable := p.param0.getLsbD 15, markEnable := p.param1.getLsbD 12,
                          safeCallEnable := p.param1.getLsbD 13 } }).modSweep x fun c =>
              { c with period := p.param3.toNat, counter := p.param3.toNat, timerRunning := false }).completed .ok 0))
      ∧ ((s.engineAt x).control = .running ∨ (s.engineAt x).control = .stopping ∨ (s.engineAt x).windDown = true →
        exec .setLine s = .next (s.completed .wrongState 0)))

/-- START_LINE (R131): refused BAD_PARAM with position 1 for the line, WRONG_STATE, NOT_CONFIGURED, EXPIRED in that
order; else the halt cause is NONE, the count 0 with the first-sweep marker set, the timer started in TIMED mode, the
line RUNNING in GUARD with a fresh guard time and no exchange, the receiver on; then the requests waiting are picked in
TRIGGERED mode and sweep 0 starts in the others. -/
def Obligations.StartLineStarts : Prop :=
  ∀ (s : State) (p : TakenCommand), s.inProgress 0x23 = some p →
    (2 ≤ (loByte p.param0).toNat → exec .startLine s = .next (s.completed .badParam 1))
    ∧ ∀ x, loByte p.param0 = lineCode x →
      let g := s.engineAt x
      let config := g.config
      (g.control = .running ∨ g.control = .stopping ∨ g.windDown = true →
        exec .startLine s = .next (s.completed .wrongState 0))
      ∧ ((g.control = .stopped ∨ g.control = .halted) → g.windDown = false →
        (g.configured = false → exec .startLine s = .next (s.completed .notConfigured 0))
        ∧ (g.configured = true → s.supervision.state = .expired → exec .startLine s = .next (s.completed .expired 0))
        ∧ (g.configured = true → s.supervision.state ≠ .expired →
          let low := s.pins.rx.get x = .low
          let started := (s.modEngine x fun g =>
              { g with haltCause := .noCause, control := .running, exchange := none, reception := none,
                       exState := .guarding, span := if low then none else some (config.guardTime * (config.divisor + 1)),
                       edge := none,
                       lowSpan := if low then some (22 * (config.divisor + 1)) else none }).modSweep x fun c =>
              { c with count := 0, firstSweep := true, pendingStart := false, state := .between,
                       counter := if config.mode = .timed then c.period else c.counter,
                       timerRunning := decide (config.mode = .timed) }
          exec .startLine s =
            .next ((if config.mode = .triggered then pickAndGive x started else sweepAndGive x started).completed .ok 0)))

/-- STOP_LINE (R132): BAD_PARAM with position 1 for the line; WRONG_STATE off a RUNNING line; with nothing in flight the
line enters STOPPED at once, OK; with an exchange in flight it becomes STOPPING, OK_DEFERRED. -/
def Obligations.StopLineStops : Prop :=
  ∀ (s : State) (p : TakenCommand), s.inProgress 0x24 = some p →
    (2 ≤ (loByte p.param0).toNat → exec .stopLine s = .next (s.completed .badParam 1))
    ∧ ∀ x, loByte p.param0 = lineCode x →
      ((s.engineAt x).control ≠ .running → exec .stopLine s = .next (s.completed .wrongState 0))
      ∧ ((s.engineAt x).control = .running → (s.engineAt x).exchange = none →
        exec .stopLine s = .next ((enterLine x .stopped s).completed .ok 0))
      ∧ ((s.engineAt x).control = .running → (s.engineAt x).exchange ≠ none →
        exec .stopLine s =
          .next ((s.modEngine x fun g => { g with control := .stopping }).completed .okDeferred 0))

/-- ABORT_LINE (R134): BAD_PARAM with position 1 for the line; WRONG_STATE on a STOPPED or HALTED line; nothing more
while an abort is under way; with an exchange in CALLING abort pending and STOPPING; else an exchange in flight ends
ABORTED with its hand-over and the line enters STOPPED. The end of the character being sent (ABORT_TAIL_END), or the
last stop bit of the call where the abort landed ahead of it (R65), then ends the exchange and enters STOPPED; while
READY is 0 the line comes to rest with no hand-over and no record (R186). Without an abort pending in CALLING no abort's
tail ends (log 4). -/
def Obligations.AbortLineAborts : Prop :=
  ∀ (s : State),
    (∀ p, s.inProgress 0x25 = some p → 2 ≤ (loByte p.param0).toNat →
      exec .abortLine s = .next (s.completed .badParam 1))
    ∧ ∀ x : Line,
      let g := s.engineAt x
      (∀ p, s.inProgress 0x25 = some p → loByte p.param0 = lineCode x →
        (g.control = .stopped ∨ g.control = .halted → exec .abortLine s = .next (s.completed .wrongState 0))
        ∧ (g.control = .running ∨ g.control = .stopping →
          (g.abortPending = true → exec .abortLine s = .next (s.completed .ok 0))
          ∧ (g.abortPending = false → g.exchange = none →
            exec .abortLine s = .next ((enterLine x .stopped s).completed .ok 0))
          ∧ (∀ e, g.abortPending = false → g.exchange = some e → g.exState = .calling →
            exec .abortLine s =
              .next ((s.modEngine x fun g => { g with abortPending := true, control := .stopping }).completed .ok 0))
          ∧ (∀ e, g.abortPending = false → g.exchange = some e → g.exState ≠ .calling →
            exec .abortLine s = .next ((enterLine x .stopped (handOver x .aborted e s)).completed .ok 0))))
      ∧ (∀ e, g.abortPending = true → g.exState = .calling → g.exchange = some e →
        ∀ c, c = Instr.abortTailEnd x ∨ c = .callFrameSent x →
          (s.port.ready = true → exec c s = .next (enterLine x .stopped (handOver x .aborted e s)))
          ∧ (s.port.ready = false →
            exec c s =
              .next ((s.modEngine x fun g =>
                  { g with control := .stopped, abortPending := false, windDown := false, exState := .idle,
                           exchange := none, span := none, reception := none, lowSpan := none, edge := none,
                           driverEnable := false, sending := none }).modSweep x fun c =>
                  { c with state := .inactive, pendingStart := false, pointer := 1, burst := 0, executed := 0,
                           skipped := 0, normalServed := false, exchangeTaken := false, timerRunning := false,
                           mark := false })))
      ∧ (g.abortPending = false ∨ g.exState ≠ .calling → exec (.abortTailEnd x) s = .next s)

/-- Entry into STOPPED or HALTED (R136, R137): the control state and for HALTED the cause, IDLE, no exchange, abort
pending and wind-down no, driver enable released; the Sweep Controller at rest with its lists, its count, its period and
its counter kept; each pending commit of the line taken, its call halves exchanged (R94), with COMMIT_TAKEN and aux
LINE_ENTRY in ascending station order (R95), and LINE_STATE after them; for HALTED the line's interrupt source pending.
That nothing comes between the flag and the records of one step is the model's choice (log 40).
The other line, the other stations and their data, the answers, the requests, the supervision timer, the port, the
Command Engine, the records held before and the configuration and counters of the line stay. -/
def Obligations.EntryIntoRest : Prop :=
  ∀ (s : State) (x y : Line) (target : EntryTarget), y ≠ x →
    let t := enterLine x target s
    let g := s.engineAt x
    let c := s.sweepAt x
    let halts := match target with | .stopped => false | .halted _ => true
    let commits (i : Fin 32) : Bool := (s.stationAt i).commitPending && decide ((s.stationAt i).line = x)
    let records : List EventRecord :=
      ((List.finRange 32).filter commits).map (fun i =>
        { kind := .commitTaken, line := some x, index := some i.val, tag := none,
          code := some (byteOf (s.callPairAt i).staged.length), aux := some 0x02, stamp := c.count })
        ++ [{ kind := .lineState, line := some x, index := none, tag := none,
              code := some (if halts then 0x03 else 0x00),
              aux := some (match target with | .stopped => 0x00 | .halted cause => haltCauseCode cause),
              stamp := c.count }]
    t.engineAt x =
        { g with control := (match target with | .stopped => .stopped | .halted _ => .halted),
                 haltCause := (match target with | .stopped => g.haltCause | .halted cause => cause),
                 abortPending := false, windDown := false, exState := .idle, exchange := none, span := none,
                 reception := none, lowSpan := none, edge := none, driverEnable := false, sending := none }
      ∧ t.sweepAt x =
        { c with state := .inactive, pendingStart := false, pointer := 1, burst := 0, executed := 0, skipped := 0,
                 normalServed := false, exchangeTaken := false, timerRunning := false, mark := false }
      ∧ t.engineAt y = s.engineAt y ∧ t.sweepAt y = s.sweepAt y
      ∧ (∀ i, (commits i = true → t.stationAt i = { s.stationAt i with commitPending := false }
            ∧ (t.callPairAt i).live = (s.callPairAt i).staged ∧ (t.callPairAt i).staged = (s.callPairAt i).live)
          ∧ (commits i = false → t.stationAt i = s.stationAt i ∧ t.callPairAt i = s.callPairAt i))
      ∧ t.events = records.foldl EventQueue.arrive s.events
      ∧ t.arbiter =
        ({ s.arbiter with
            pendingLineA := s.arbiter.pendingLineA || halts && decide (x = .a),
            pendingLineB := s.arbiter.pendingLineB || halts && decide (x = .b) } : Arbiter).settled
          t.events.records.length
      ∧ t = { s with engine := t.engine, sweep := t.sweep, stations := t.stations,
                     store := { s.store with calls := t.store.calls }, events := t.events, arbiter := t.arbiter }

/-! ### Exchanges -/

/-- An exchange starts (R49, R50, R51): a request to a station takes address, function code, call image, answer
maximum and attempts from the station and the descriptor, a broadcast has address 63 and one attempt; from IDLE its
first CALLING begins at once, with driver enable and the frame, in GUARD it waits; the other line and all but the
engine stay. -/
def Obligations.RequestsStartTheirExchange : Prop :=
  ∀ (s : State) (x y : Line) (d : Fin 16), y ≠ x →
    let r := s.descriptorAt d
    let call := s.requestCallAt d
    let image := call.bytes.toList.take call.length
    let t := startRequest x d s
    let station (i : Fin 32) : Exchange :=
      { kind := .request, station := some i, descriptor := some d, address := (s.stationAt i).address.getD 0,
        functionCode := r.functionCode, image := image, answerMax := some r.answerMax, busyRetry := true,
        allowed := if (s.stationAt i).health = .offline then 1 else (s.stationAt i).retryLimit + 1, made := 0,
        outcome := none }
    let broadcast : Exchange :=
      { kind := .broadcast, station := none, descriptor := some d, address := 63, functionCode := r.functionCode,
        image := image, answerMax := none, busyRetry := false, allowed := 1, made := 0, outcome := none }
    ∀ e, (∃ i, r.target = some (.station i) ∧ e = station i) ∨ (∃ z, r.target = some (.broadcast z) ∧ e = broadcast) →
      ((s.engineAt x).exState = .idle →
        t.engineAt x =
          { s.engineAt x with exState := .calling, exchange := some { e with made := 1 }, driverEnable := true,
                              sending := some { frame := e.callFrame, elapsed := 0 }, span := none,
                              reception := none, lowSpan := none, edge := none })
      ∧ ((s.engineAt x).exState = .guarding → t.engineAt x = { s.engineAt x with exchange := some e })
      ∧ t.engineAt y = s.engineAt y ∧ t = { s with engine := t.engine }

/-- A slot's exchange starts (R49, R50, R51): a pending commit is taken first, its halves exchanged, commit pending
cleared and COMMIT_TAKEN posted with aux EXCHANGE_START; the call image is the live call data, the answer maximum 32, a
probe has one attempt and a cyclic exchange the retry limit plus one. From IDLE its first CALLING begins at once; in
GUARD its record waits, the commit already taken. -/
def Obligations.SlotsStartTheirExchange : Prop :=
  ∀ (s : State) (x : Line) (i : Fin 32) (kind : ExchangeKind), kind = .cyclic ∨ kind = .probe →
    let r := s.stationAt i
    let old := s.callPairAt i
    let t := startSlot x i kind s
    let live := if r.commitPending then old.staged else old.live
    let e : Exchange :=
      { kind := kind, station := some i, descriptor := none, address := r.address.getD 0,
        functionCode := r.functionCode, image := live.bytes.toList.take live.length, answerMax := some 32,
        busyRetry := false, allowed := if kind = .probe then 1 else r.retryLimit + 1, made := 0, outcome := none }
    ((s.engineAt x).exState = .idle →
        t.engineAt x =
          { s.engineAt x with exState := .calling, exchange := some { e with made := 1 }, driverEnable := true,
                              sending := some { frame := e.callFrame, elapsed := 0 }, span := none,
                              reception := none, lowSpan := none, edge := none })
      ∧ ((s.engineAt x).exState = .guarding → t.engineAt x = { s.engineAt x with exchange := some e })
      ∧ (t.callPairAt i).live = live ∧ (t.callPairAt i).staged = (if r.commitPending then old.live else old.staged)
      ∧ t.stationAt i = { r with commitPending := false }
      ∧ (∀ j, j ≠ i → t.stationAt j = s.stationAt j ∧ t.callPairAt j = s.callPairAt j)
      ∧ t.events =
        (if r.commitPending then s.events.arrive
          { kind := .commitTaken, line := some r.line, index := some i.val, tag := none,
            code := some (byteOf live.length), aux := some 0x01, stamp := (s.sweepAt r.line).count }
         else s.events)

/-- The end of a call (R53, R85, R87): a call to a station goes to AWAITING with the receive buffer cleared and the
answer timeout started, whatever the level of the receive pin (R82), a broadcast or safe call to GUARD with outcome GOOD
and a fresh guard time; driver enable is released and the receiver comes on. On a low pin the break measurement starts
at the release, and no silence is timed before the pin returns. -/
def Obligations.CallFrameSentGoesOn : Prop :=
  ∀ (s : State) (x : Line) (e : Exchange),
    let g := s.engineAt x
    let high := s.pins.rx.get x = .high
    let lowSpan : Option Nat := if high then none else some (22 * (g.config.divisor + 1))
    g.exchange = some e → g.exState = .calling → g.abortPending = false →
    (e.kind = .cyclic ∨ e.kind = .probe ∨ e.kind = .request →
      exec (.callFrameSent x) s =
        .next (s.modEngine x fun g =>
          { g with exState := .awaiting, buffer := ReceiveBuffer.reset, driverEnable := false, sending := none,
                   reception := none, lowSpan := lowSpan,
                   span := some (g.config.answerTimeout * (g.config.divisor + 1)) }))
    ∧ (e.kind = .broadcast ∨ e.kind = .safeCall →
      exec (.callFrameSent x) s =
        .next (s.modEngine x fun g =>
          { g with exState := .guarding, exchange := some { e with outcome := some .good }, driverEnable := false,
                   sending := none, reception := none, lowSpan := lowSpan,
                   span := if high then some (g.config.guardTime * (g.config.divisor + 1)) else none }))

/-- The receive pin (R54, R74, R75, R83, R84, R85): a falling edge on a high pin with the receiver on and no character
being received starts a character and the break measurement, stops the running span and takes AWAITING to RECEIVING; its
middle sample is half a bit time away, and the span it stopped is kept for the case that this sample rejects the edge.
An edge that falls before that sample waits for its own behind it, and does not hold an expiry that was held already.
Inside a validated character an edge starts the break measurement and nothing else begins. With the receiver off only
the level changes. The pin's return ends the break measurement and, between characters, starts the silence of DRAINING
and of GUARD. How the pin's level is followed, that the edges of a character's bits need not be presented, that the edge
has its effect before its sample, and half an odd bit time rounded up are the model's (logs 10 and 11). -/
def Obligations.ReceivePinEdges : Prop :=
  ∀ (s : State) (x : Line),
    let g := s.engineAt x
    let half := (g.config.divisor + 2) / 2
    let limit : Option Nat := some (22 * (g.config.divisor + 1))
    let edged (r : Reception) : Reception := { r with lastEdge := r.elapsed }
    let inside := g.reception ≠ none ∧ g.edge = none
    (s.pins.rx.get x = .high → g.receiverOn = true → g.reception = none →
      exec (.startBitArrival x) s =
        .next ((s.setRx x .low).modEngine x fun g =>
          { g with reception := some { elapsed := 0, lastEdge := 0 }, lowSpan := limit, span := none,
                   exState := if g.exState = .awaiting then .receiving else g.exState,
                   edge := some { left := half, awaited := decide (g.exState = .awaiting), span := g.span,
                                  overdue := false, later := [] } }))
    ∧ (∀ r e, s.pins.rx.get x = .high → g.receiverOn = true → g.reception = some r → g.edge = some e →
      exec (.startBitArrival x) s =
        .next ((s.setRx x .low).modEngine x fun g =>
          { g with lowSpan := limit, reception := some (edged r),
                   edge := some { e with
                     later := e.later ++ [{ left := half, overdue := decide (e.span = some 0) }] } }))
    ∧ (∀ r, g.receiverOn = true → g.reception = some r → g.edge = none →
      exec (.startBitArrival x) s =
        .next ((s.setRx x .low).modEngine x fun g => { g with lowSpan := limit, reception := some (edged r) }))
    ∧ (s.pins.rx.get x = .high → g.receiverOn = false → exec (.startBitArrival x) s = .next (s.setRx x .low))
    ∧ (s.pins.rx.get x = .low → ¬ inside → exec (.startBitArrival x) s = .next s)
    ∧ (s.pins.rx.get x = .high → ¬ inside → exec (.pinReturnsHigh x) s = .next s)
    ∧ (s.pins.rx.get x = .low ∨ inside →
      exec (.pinReturnsHigh x) s =
        .next ((s.setRx x .high).modEngine x fun g =>
          { g with lowSpan := none, reception := g.reception.map edged,
                   span := if (s.engineAt x).receiverOn = true ∧ g.reception = none then
                       (if g.exState = .draining then some (g.config.gapLimit * (g.config.divisor + 1))
                        else if g.exState = .guarding then some (g.config.guardTime * (g.config.divisor + 1))
                        else g.span)
                     else g.span }))

/-- A character in RECEIVING with mark bit 0 and a high stop bit (R56): at position 1 the echo must equal the address,
else WRONG_STATION and DRAINING; position 2 is the status; at position 3 the length must not exceed the answer maximum,
else OVERLENGTH and DRAINING; a payload byte is stored at the stored count; each one taken starts the gap limit. A
failed one drains from here: the silence of DRAINING is the gap limit, timed from the character's end where the pin is
high there, else from its return (R60, R83). How a character's end leaves the pin, `endCharacter`, stands in the
statement of strays and faults; that the stop bit sets the pin's level where no edge tells another is the model's (log
10). -/
def Obligations.AnswerCharactersByPosition : Prop :=
  ∀ (s : State) (x : Line) (e : Exchange) (data : Byte),
    let g := s.engineAt x
    let b := g.buffer
    g.receiverOn = true → g.receiving = true → g.exState = .receiving → g.exchange = some e →
    let ended := endCharacter x data false true s
    let gap := g.config.gapLimit * (g.config.divisor + 1)
    let taken (next : ReceiveBuffer) : State := ended.modEngine x fun g => { g with buffer := next, span := some gap }
    let drained (outcome : ExchangeResult) : State :=
      ended.modEngine x fun g =>
        { g with exState := .draining, exchange := some { e with outcome := some outcome },
                 span := if ended.pins.rx.get x = .high then some gap else none }
    let answer := exec (.characterReceived x data false true) s
    (b.position = 0 → data = e.address → answer = .next (taken { b with position := 1, echo := data }))
    ∧ (b.position = 0 → data ≠ e.address → answer = .next (drained .wrongStation))
    ∧ (b.position = 1 → answer = .next (taken { b with position := 2, status := data }))
    ∧ (∀ most, e.answerMax = some most → b.position = 2 → data.toNat ≤ most →
      answer = .next (taken { b with position := 3, declared := data }))
    ∧ (∀ most, e.answerMax = some most → b.position = 2 → most < data.toNat → answer = .next (drained .overlength))
    ∧ (3 ≤ b.position → b.position < 3 + b.declared.toNat → ∀ h : b.stored < 32,
      answer = .next (taken { b with position := b.position + 1, stored := b.stored + 1,
                                     payload := b.payload.set b.stored data h }))
    ∧ (b.position = 3 + b.declared.toNat →
      answer = .next (taken { b with position := b.position + 1, check := data ++ b.check.extractLsb' 0 8 }))

/-- C2 completes the frame (R58): CHECK_ERROR where the check over echo, status, length and payload differs from the
received check, else BUSY by status bit 0, else GOOD; GUARD is entered with a fresh guard time, which on a low pin
starts when the pin returns (R61, R84). How a character's end leaves the pin, `endCharacter`, stands in the statement of
strays and faults; that the stop bit sets the pin's level where no edge tells another is the model's (log 10). -/
def Obligations.LastCharacterDecidesTheOutcome : Prop :=
  ∀ (s : State) (x : Line) (e : Exchange) (c2 : Byte),
    let g := s.engineAt x
    let b := g.buffer
    g.receiverOn = true → g.receiving = true → g.exState = .receiving → g.exchange = some e →
    b.position = b.declared.toNat + 4 →
    let received := b.check.extractLsb' 8 8 ++ c2
    let computed := frameCheck (b.echo :: b.status :: b.declared :: b.payload.toList.take b.declared.toNat)
    let outcome : ExchangeResult :=
      if computed ≠ received then .checkError else if b.status.getLsbD 0 then .busy else .good
    let ended := endCharacter x c2 false true s
    exec (.characterReceived x c2 false true) s =
      .next (ended.modEngine x fun g =>
        { g with exState := .guarding, buffer := { b with position := b.position + 1, check := received },
                 exchange := some { e with outcome := some outcome },
                 span := if ended.pins.rx.get x = .high then some (g.config.guardTime * (g.config.divisor + 1))
                   else none })

/-- Other characters (R57, R60, R62, R66, R76, R138, R139): a low stop bit in RECEIVING is FRAMING_ERROR and DRAINING; a
character in IDLE or GUARD is a stray whatever its stop bit, counted and saturating at 255, and GUARD is entered or its
guard time begun anew; one in DRAINING is discarded and its silence begins anew; a mark bit of 1 is a CONFLICT fault in
every state, and a pin low for the break limit a BREAK fault: an exchange in flight ends LINE_FAULT, and the line enters
HALTED with that cause. Without a validated start bit or with the receiver off no character is taken (R62, R87). The end
of a character ends its reception; the pin and the break measurement stay as the edges left them where no bit was
sampled at another level behind the last edge presented, bit k at k + 0.5 bit times (R75, R83, R84, R85). The model's:
else the stop bit gives the level (log 10), and behind a low one the measurement counts the low bits that end the
character (log 12); silence waits for a high pin. -/
def Obligations.StraysAndFaults : Prop :=
  ∀ (s : State) (x : Line) (data : Byte),
    let g := s.engineAt x
    let bit := g.config.divisor + 1
    let level (stop : Bool) : PinLevel := if stop then .high else .low
    let ended (mark stop : Bool) : State := endCharacter x data mark stop s
    let silence (mark stop : Bool) (left : Nat) : Option Nat :=
      if (ended mark stop).pins.rx.get x = .high then some left else none
    let sampled (mark stop : Bool) (k : Nat) : PinLevel :=
      level (if k = 0 then false else if k < 9 then data.getLsbD (k - 1) else if k = 9 then mark else stop)
    let edgesTell (mark stop : Bool) : Prop := ∃ r, g.reception = some r
      ∧ ∀ k < 11, sampled mark stop k ≠ s.pins.rx.get x → (2 * k + 1) * bit ≤ 2 * r.lastEdge
    (∀ mark stop,
      (edgesTell mark stop → ended mark stop = s.modEngine x fun g => { g with reception := none, edge := none })
      ∧ (¬ edgesTell mark stop →
        ended mark stop = (s.setRx x (level stop)).modEngine x fun g =>
          { g with reception := none, edge := none,
                   lowSpan := if stop then none else some ((22 - lowRunAtEnd data mark) * bit) }))
    ∧ (g.receiverOn = false ∨ g.receiving = false → ∀ mark stop, exec (.characterReceived x data mark stop) s = .next s)
    ∧ (g.receiverOn = true → g.receiving = true →
      (∀ e, g.exState = .receiving → g.exchange = some e →
        exec (.characterReceived x data false false) s =
          .next ((ended false false).modEngine x fun g =>
            { g with exState := .draining, span := silence false false (g.config.gapLimit * bit),
                     exchange := some { e with outcome := some .framingError } }))
      ∧ (g.exState = .idle ∨ g.exState = .guarding → ∀ stop, exec (.characterReceived x data false stop) s =
        .next ((ended false stop).modEngine x fun g =>
          { g with exState := .guarding, stray := if g.stray < 255 then g.stray + 1 else g.stray,
                   span := silence false stop (g.config.guardTime * bit) }))
      ∧ (g.exState = .draining → ∀ stop, exec (.characterReceived x data false stop) s =
        .next ((ended false stop).modEngine x fun g => { g with span := silence false stop (g.config.gapLimit * bit) }))
      ∧ (∀ stop, exec (.characterReceived x data true stop) s =
        .next (endInto x .lineFault (.halted .conflict) (ended true stop))))
    ∧ (g.receiverOn = true → s.pins.rx.get x = .low →
      exec (.breakDetected x) s = .next (endInto x .lineFault (.halted .lineBreak) s))
    ∧ (∀ outcome target, (∀ e, g.exchange = some e →
        endInto x outcome target s = enterLine x target (handOver x outcome e s))
      ∧ (g.exchange = none → endInto x outcome target s = enterLine x target s))

/-- The expiries that close an attempt or a silence (R54, R59, R60): the answer timeout in AWAITING records NO_ANSWER,
the gap limit in RECEIVING records TRUNCATED, the drain silence keeps the outcome recorded; each enters GUARD with a
fresh guard time, which on a low pin starts when the pin returns (R82, R84), the break measurement going on (R85).
Behind a falling edge whose middle sample is still to come, each of them and the guard time's expiry is held: the kept
span is then run out, and takes effect only if that sample rejects the edge. One held behind an edge before it, now
rejected, takes effect as if no edge had occurred, and the edges that have fallen since stand behind it where the
receiver is still on (R52, R74; the field `edge` is the model's, log 11). -/
def Obligations.ExpiriesEnterGuard : Prop :=
  ∀ (s : State) (x : Line),
    let g := s.engineAt x
    let guarded (e : Exchange) (outcome : Option ExchangeResult) : State :=
      s.modEngine x fun g =>
        { g with exState := .guarding, exchange := some { e with outcome := outcome },
                 span := if s.pins.rx.get x = .high ∧ g.reception = none then
                     some (g.config.guardTime * (g.config.divisor + 1))
                   else none }
    (∀ e left, g.exchange = some e → g.span = some left → g.edge = none →
      (g.exState = .awaiting → exec (.answerTimeout x) s = .next (guarded e (some .noAnswer)))
      ∧ (g.exState = .receiving → exec (.gapLimitExpiry x) s = .next (guarded e (some .truncated)))
      ∧ (g.exState = .draining → exec (.drainSilenceEnd x) s = .next (guarded e e.outcome)))
    ∧ ∀ edge left, g.edge = some edge → edge.span = some left →
      ∀ state expiry, (state, expiry) ∈ [(ExchangeState.awaiting, Instr.answerTimeout x),
          (.receiving, .gapLimitExpiry x), (.draining, .drainSilenceEnd x), (.guarding, .guardTimeExpiry x)] →
        (if edge.awaited = true ∧ g.exState = .receiving then .awaiting else g.exState) = state →
        (edge.overdue = false →
          exec expiry s = .next (s.modEngine x fun g => { g with edge := some { edge with span := some 0 } }))
        ∧ (edge.overdue = true → ∀ r t, g.reception = some r →
          exec expiry ((s.setRx x .high).modEngine x fun g =>
              { g with edge := none, reception := none, exState := state, span := edge.span }) = .next t →
          let back := t.setRx x (s.pins.rx.get x)
          ((back.engineAt x).receiverOn = false → exec expiry s = .next back)
          ∧ ((back.engineAt x).receiverOn = true →
            exec expiry s =
              .next (back.modEngine x fun u =>
                { u with reception := some r, span := none,
                         exState := if u.exState = .awaiting then .receiving else u.exState,
                         edge := some { left := edge.left, awaited := decide (u.exState = .awaiting), span := u.span,
                                        overdue := false,
                                        later := edge.later.map fun l => { l with overdue := false } } })))

/-- The guard time's expiry (R61, R63, R64): with nothing in flight IDLE, and an idle REPEAT line starts its next
sweep (R36); a waiting first attempt calls, a safe call with its buffer as it now stands (R144); a failed attempt, or
BUSY with busy retry, is called again while attempts are left and nothing suppresses it; else the exchange ends with
that outcome and the line goes on (R68): a wind-down sends the safe call where enabled and not yet sent, and else enters
HALTED with cause SUPERVISION (R144, R145), a RUNNING line picks, a STOPPING one enters STOPPED (R133). When a waiting
safe call takes its image is read as in log 17, the end of the idle wait as in log 30. -/
def Obligations.GuardTimeExpiryActs : Prop :=
  ∀ (s : State) (x : Line) (left : Nat),
    let g := s.engineAt x
    g.exState = .guarding → g.span = some left → g.edge = none →
    let calling (u : State) (e : Exchange) : State :=
      u.modEngine x fun g =>
        { g with exState := .calling, exchange := some { e with made := e.made + 1, outcome := none },
                 driverEnable := true, sending := some { frame := e.callFrame, elapsed := 0 }, span := none,
                 reception := none, lowSpan := none, edge := none }
    let b := s.store.safeCalls.get x
    let safeCall : Exchange :=
      { kind := .safeCall, station := none, descriptor := none, address := 63, functionCode := b.functionCode,
        image := b.bytes.toList.take b.length, answerMax := none, busyRetry := false, allowed := 1, made := 0,
        outcome := none }
    let rested := s.modEngine x fun g => { g with exState := .idle, span := none }
    let waits := g.config.mode = .repeating ∧ g.control = .running ∧ g.windDown = false ∧ (s.sweepAt x).state = .between
    (g.exchange = none →
      (waits → exec (.guardTimeExpiry x) s = .next (sweepAndGive x rested))
      ∧ (¬ waits → exec (.guardTimeExpiry x) s = .next rested))
    ∧ (∀ e, g.exchange = some e → e.outcome = none →
      exec (.guardTimeExpiry x) s = .next (calling s (if e.kind = .safeCall then safeCall else e)))
    ∧ (∀ e outcome, g.exchange = some e → e.outcome = some outcome →
      let suppressed := g.control = .stopping ∨ s.supervision.state = .expired
        ∨ ∃ d, e.descriptor = some d ∧ (s.descriptorAt d).cancelRequested = true
      let retried := (classOf outcome = .failure ∨ outcome = .busy ∧ e.busyRetry = true) ∧ e.made < e.allowed
        ∧ ¬ suppressed
      let done := handOver x outcome e s
      (retried → exec (.guardTimeExpiry x) s = .next (calling s e))
      ∧ (¬ retried → g.windDown = true → g.config.safeCallEnable = true → e.kind ≠ .safeCall →
        exec (.guardTimeExpiry x) s = .next (calling done safeCall))
      ∧ (¬ retried → g.windDown = true → g.config.safeCallEnable = false ∨ e.kind = .safeCall →
        exec (.guardTimeExpiry x) s = .next (enterLine x (.halted .supervision) done))
      ∧ (¬ retried → g.windDown = false → g.control = .running →
        exec (.guardTimeExpiry x) s = .next (pickAndGive x done))
      ∧ (¬ retried → g.windDown = false → g.control = .stopping →
        exec (.guardTimeExpiry x) s = .next (enterLine x .stopped done)))

/-- The hand-over at an exchange's end (R68 to R71): the station of a slot or a request takes its report, a broadcast
and a safe call report to none; then a GOOD answer of a slot goes to the station's answer data and the result of a
request or a broadcast to its descriptor; the record becomes absent and the state IDLE, the exchanges counter
increases wrapping, the failed counter at a failure outcome saturating at 65535, the other counters stay; the sweeps
and the other line stay. -/
def Obligations.HandOverCountsAndReports : Prop :=
  ∀ (s : State) (x y : Line) (outcome : ExchangeResult) (e : Exchange), y ≠ x →
    let g := s.engineAt x
    let t := handOver x outcome e s
    let b := g.buffer
    let ended (u : State) : State := u.modEngine x fun g =>
      { g with exchange := none, exState := .idle, span := none, driverEnable := false, sending := none,
               exchanges := g.exchanges + 1,
               failed := if classOf outcome = .failure ∧ g.failed < 65535 then g.failed + 1 else g.failed }
    let reported (i : Fin 32) : State := stationReport i outcome b.status s
    (∀ i, e.kind = .cyclic ∨ e.kind = .probe → e.station = some i →
        (outcome = .good → t = ended (storeAnswer i b (s.sweepAt x).count (reported i)))
        ∧ (outcome ≠ .good → t = ended (reported i)))
      ∧ (∀ i d, e.kind = .request → e.station = some i → e.descriptor = some d →
        t = ended (completeActive d .request outcome e.made b (reported i)))
      ∧ (∀ d, e.kind = .broadcast → e.station = none → e.descriptor = some d →
        t = ended (completeActive d .broadcast outcome e.made b s))
      ∧ (e.kind = .safeCall → e.station = none → t = ended s)
      ∧ t.engineAt x =
        { g with exchange := none, exState := .idle, span := none, driverEnable := false, sending := none,
                 exchanges := g.exchanges + 1,
                 failed := if classOf outcome = .failure ∧ g.failed < 65535 then g.failed + 1 else g.failed }
      ∧ t.engineAt y = s.engineAt y ∧ t.sweep = s.sweep
      ∧ (∀ i, e.station = some i →
        (t.stationAt i).health = (recordAfterReport (s.stationAt i) outcome b.status).health
          ∧ (t.stationAt i).failureCount = (recordAfterReport (s.stationAt i) outcome b.status).failureCount
          ∧ (t.stationAt i).lastOutcome = some outcome)
      ∧ (∀ i, e.station ≠ some i → t.stationAt i = s.stationAt i)
      ∧ (e.descriptor = none → t.pool = s.pool)

/-- The report of an exchange in the Station Table (R6 to R9, R12 to R14): last outcome and for a success last status;
the health machine; the alert latch; STATION_STATE posted where health changed, then STATION_ALERT where the latch was
set; no other record changes. -/
def Obligations.ReportMovesHealth : Prop :=
  ∀ (s : State) (i : Fin 32) (outcome : ExchangeResult) (status : Byte),
    let r := s.stationAt i
    let t := stationReport i outcome status s
    let a := t.stationAt i
    a.lastOutcome = some outcome
      ∧ (∀ j, j ≠ i → t.stationAt j = s.stationAt j)
      ∧ (classOf outcome = .success →
        a.lastStatus = some status ∧ a.alertLatched = status.getLsbD 1 ∧ a.probeCountdown = r.probeCountdown
        ∧ (r.health = .probing ∨ r.health = .suspect ∨ r.health = .offline → a.health = .online ∧ a.failureCount = 0)
        ∧ (r.health = .online ∨ r.health = .disabled → a.health = r.health ∧ a.failureCount = r.failureCount))
      ∧ (classOf outcome = .failure →
        a.lastStatus = r.lastStatus ∧ a.alertLatched = r.alertLatched
        ∧ (r.health = .online → a.health = .suspect ∧ a.failureCount = 1 ∧ a.probeCountdown = r.probeCountdown)
        ∧ (r.health = .probing ∨ r.health = .suspect → a.failureCount = r.failureCount + 1
          ∧ (r.failureCount + 1 = r.offlineLimit → a.health = .offline ∧ a.probeCountdown = r.probeInterval)
          ∧ (r.failureCount + 1 ≠ r.offlineLimit → a.health = r.health ∧ a.probeCountdown = r.probeCountdown))
        ∧ (r.health = .offline → a.health = .offline ∧ a.failureCount = r.failureCount
          ∧ a.probeCountdown = r.probeInterval)
        ∧ (r.health = .disabled → a.health = .disabled ∧ a.failureCount = r.failureCount
          ∧ a.probeCountdown = r.probeCountdown))
      ∧ (classOf outcome = .neutral → a = { r with lastOutcome := some outcome })
      ∧ t.events =
        ((if a.health = r.health then []
          else [({ kind := .stationState, line := some r.line, index := some i.val, tag := none,
                   code := some (healthCode a.health), aux := some (healthCode r.health),
                   stamp := (s.sweepAt r.line).count } : EventRecord)])
          ++ if a.alertLatched = true ∧ r.alertLatched = false then
              [({ kind := .stationAlert, line := some r.line, index := some i.val, tag := none, code := some status,
                  aux := none, stamp := (s.sweepAt r.line).count } : EventRecord)]
             else []).foldl EventQueue.arrive s.events

/-- A GOOD cyclic answer (R98 to R100): with no STATION_ANSWER view open on the station the published half is the answer
whole, with the next sequence; with the view open the published half stays, the spare half is the answer, and publish
pending is set, or the overtaken count increases where it was set. -/
def Obligations.GoodAnswersArePublishedOrHeld : Prop :=
  ∀ (s : State) (i : Fin 32) (b : ReceiveBuffer) (stamp : Word),
    let r := s.stationAt i
    let old := s.answerPairAt i
    let t := storeAnswer i b stamp s
    let filled (half old : AnswerBuffer) : Prop := half.valid = true ∧ half.length = b.declared.toNat
      ∧ half.status = b.status ∧ half.stamp = stamp
      ∧ ∀ k : Fin 32, half.bytes[k] = if k.val < b.declared.toNat then b.payload[k] else old.bytes[k]
    (s.port.view ≠ some (.stationAnswer i) →
      filled (t.answerPairAt i).published old.spare ∧ (t.answerPairAt i).published.sequence = r.answerSequence + 1
        ∧ (t.answerPairAt i).spare = old.published
        ∧ t.stationAt i = { r with answerSequence := r.answerSequence + 1, publishPending := false })
    ∧ (s.port.view = some (.stationAnswer i) →
      (t.answerPairAt i).published = old.published ∧ filled (t.answerPairAt i).spare old.spare
        ∧ (r.publishPending = false → t.stationAt i = { r with publishPending := true })
        ∧ (r.publishPending = true →
          t.stationAt i = { r with overtakenCount := if r.overtakenCount < 255 then r.overtakenCount + 1
                                                     else r.overtakenCount }))
    ∧ (∀ j, j ≠ i → t.answerPairAt j = s.answerPairAt j ∧ t.stationAt j = s.stationAt j)

/-! ### Requests -/

/-- POST_REQUEST (R112, R113, R38): BAD_PARAM with the position of the first parameter out of range; refused by the
descriptor's and the station's state; else the descriptor is QUEUED with the parameters at the tail of its FIFO, its
answer not valid, and RESULT1 the number of entries; the first entry causes a pick on a line free between sweeps (free:
log 31), but in REPEAT mode. -/
def Obligations.PostRequestQueues : Prop :=
  ∀ (s : State) (p : TakenCommand), s.inProgress 0x30 = some p →
    let inRange : Nat → Prop := fun position => match position with
      | 1 => (loByte p.param0).toNat < 16
      | 2 => (hiByte p.param0).toNat < 32 ∨ hiByte p.param0 = 0x40 ∨ hiByte p.param0 = 0x41
      | 4 => (hiByte p.param1).toNat < 2
      | 6 => (hiByte p.param2).toNat ≤ 32
      | _ => True
    (∀ position, (∀ k, k < position → inRange k) → ¬ inRange position →
      exec .postRequest s = .next (s.completed .badParam position))
    ∧ ∀ (d : Fin 16) (target : Target), (∀ k, inRange k) → fieldOf p.param0 0 8 = d.val →
      hiByte p.param0 = targetCode target →
      let r := s.descriptorAt d
      let u : Urgency := if hiByte p.param1 = 0x01 then .urgent else .normal
      let x := match target with | .station i => (s.stationAt i).line | .broadcast z => z
      let queued :=
        ((s.setDescriptor d
          { state := .queued, tag := loByte p.param2, target := some target, line := x,
            functionCode := loByte p.param1, urgency := u, answerMax := (hiByte p.param2).toNat,
            cancelRequested := false, attemptsUsed := 0, result := none, stamp := none }).setRequestAnswer d
          { s.requestAnswerAt d with valid := false, length := 0, status := 0, stamp := 0 }).setFifo x u
          (s.fifo x u ++ [d])
      (r.state = .queued ∨ r.state = .active ∨ r.state = .done →
        exec .postRequest s = .next (s.completed .wrongState 1))
      ∧ (r.state = .free ∨ r.state = .opened →
        (∀ i, target = .station i → (s.stationAt i).defined = false →
          exec .postRequest s = .next (s.completed .notDefined 0))
        ∧ (∀ i, target = .station i → (s.stationAt i).defined = true → (s.stationAt i).health = .disabled →
          exec .postRequest s = .next (s.completed .wrongState 2))
        ∧ ((∀ i, target = .station i → (s.stationAt i).defined = true ∧ (s.stationAt i).health ≠ .disabled) →
          let picks := s.fifo x u = [] ∧ (s.engineAt x).control = .running ∧ (s.engineAt x).windDown = false
            ∧ (s.sweepAt x).state = .between ∧ (s.engineAt x).exchange = none
            ∧ (s.engineAt x).config.mode ≠ .repeating
          (picks → exec .postRequest s = .next ((pickAndGive x queued).completed .ok 1))
          ∧ (¬ picks → exec .postRequest s = .next (queued.completed .ok ((s.fifo x u).length + 1)))))

/-- CANCEL_REQUEST (R120, R121, R122), FLUSH_REQUESTS (R124) and COLLECT_REQUEST (R125): a QUEUED descriptor leaves its
FIFO and completes CANCELLED, an ACTIVE one gets cancel requested; a flush empties the named FIFOs of a line and
completes each of their descriptors, urgent first, head to tail; a collected DONE or OPEN descriptor is FREE. -/
def Obligations.RequestsAreWithdrawnAndCollected : Prop :=
  ∀ (s : State) (p : TakenCommand),
    (16 ≤ fieldOf p.param0 0 8 →
      (s.inProgress 0x31 = some p → exec .cancelRequest s = .next (s.completed .badParam 1))
      ∧ (s.inProgress 0x33 = some p → exec .collectRequest s = .next (s.completed .badParam 1)))
    ∧ (∀ d : Fin 16, fieldOf p.param0 0 8 = d.val →
      let r := s.descriptorAt d
      (s.inProgress 0x31 = some p →
        (r.state = .free ∨ r.state = .opened ∨ r.state = .done →
          exec .cancelRequest s = .next (s.completed .wrongState 0))
        ∧ (r.state = .queued →
          exec .cancelRequest s =
            .next ((completeQueued .cancelled d
              (s.setFifo r.line r.urgency ((s.fifo r.line r.urgency).filter fun j => decide (j ≠ d)))).completed .ok 0))
        ∧ (r.state = .active → r.cancelRequested = false →
          exec .cancelRequest s = .next ((s.setDescriptor d { r with cancelRequested := true }).completed .okDeferred 0))
        ∧ (r.state = .active → r.cancelRequested = true →
          exec .cancelRequest s = .next (s.completed .pending 0)))
      ∧ (s.inProgress 0x33 = some p →
        (r.state = .free ∨ r.state = .queued ∨ r.state = .active →
          exec .collectRequest s = .next (s.completed .wrongState 0))
        ∧ (r.state = .done ∨ r.state = .opened →
          (s.port.view = some (.requestCall d) ∨ s.port.view = some (.requestAnswer d) →
            exec .collectRequest s = .next (s.completed .inUse 0))
          ∧ (s.port.view ≠ some (.requestCall d) → s.port.view ≠ some (.requestAnswer d) →
            exec .collectRequest s =
              .next ((s.setDescriptor d
                { r with state := .free, result := none, stamp := none, cancelRequested := false,
                         attemptsUsed := 0 }).completed .ok 0)))))
    ∧ (s.inProgress 0x32 = some p →
      (2 ≤ fieldOf p.param0 0 8 → exec .flushRequests s = .next (s.completed .badParam 1))
      ∧ ∀ x, loByte p.param0 = lineCode x →
        (hiByte p.param0 = 0x00 ∨ 4 ≤ (hiByte p.param0).toNat →
          exec .flushRequests s = .next (s.completed .badParam 2))
        ∧ (hiByte p.param0 = 0x01 →
          exec .flushRequests s =
            .next ((completeAllQueued .cancelled (s.fifo x .urgent) (s.setFifo x .urgent [])).completed .ok
              (s.fifo x .urgent).length))
        ∧ (hiByte p.param0 = 0x02 →
          exec .flushRequests s =
            .next ((completeAllQueued .cancelled (s.fifo x .normal) (s.setFifo x .normal [])).completed .ok
              (s.fifo x .normal).length))
        ∧ (hiByte p.param0 = 0x03 →
          exec .flushRequests s =
            .next ((completeAllQueued .cancelled (s.fifo x .urgent ++ s.fifo x .normal)
              ((s.setFifo x .urgent []).setFifo x .normal [])).completed .ok
              ((s.fifo x .urgent).length + (s.fifo x .normal).length))))

/-- A descriptor completed (R70, R104, R117, R118, R119): DONE with its result, CANCELLED under a late cancel, its
attempts and the line's count as stamp; its answer by the table of R104; one REQUEST_DONE. The FIFOs, the other
descriptors, the stations and the lines stay. That the answer's bytes beyond the declared length keep their values is
the model's reading of R89 (log 24). -/
def Obligations.CompletedDescriptorsAreDone : Prop :=
  ∀ (s : State) (d : Fin 16) (kind : ExchangeKind) (outcome : ExchangeResult) (attempts : Nat) (b : ReceiveBuffer),
    let r := s.descriptorAt d
    let old := s.requestAnswerAt d
    let stamp := (s.sweepAt r.line).count
    let result := if r.cancelRequested then .cancelled else outcome
    let t := completeActive d kind outcome attempts b s
    let answered := t.requestAnswerAt d
    let recorded (result : ExchangeResult) (attempts : Nat) : EventRecord :=
      { kind := .requestDone, line := some r.line, index := some d.val, tag := some r.tag,
        code := some (exchangeResultCode result), aux := some (byteOf attempts), stamp := stamp }
    t.descriptorAt d = { r with state := .done, result := some result, attemptsUsed := attempts, stamp := some stamp }
      ∧ (kind = .request → result = .good →
        answered = { valid := true, length := b.declared.toNat, status := b.status, stamp := stamp,
                     bytes := answered.bytes }
          ∧ ∀ k : Fin 32, answered.bytes[k] = if k.val < b.declared.toNat then b.payload[k] else old.bytes[k])
      ∧ (kind = .request → result = .busy →
        answered = { valid := true, length := 0, status := b.status, stamp := stamp, bytes := old.bytes })
      ∧ (kind ≠ .request ∨ result ≠ .good ∧ result ≠ .busy →
        answered = { valid := false, length := 0, status := 0, stamp := stamp, bytes := old.bytes })
      ∧ t.events = s.events.arrive (recorded result attempts)
      ∧ (∀ j, j ≠ d → t.descriptorAt j = s.descriptorAt j ∧ t.requestAnswerAt j = s.requestAnswerAt j)
      ∧ (∀ x u, t.fifo x u = s.fifo x u) ∧ t.stations = s.stations ∧ t.sweep = s.sweep ∧ t.engine = s.engine
      ∧ ∀ code, completeQueued code d s =
        post (recorded code 0)
          ((s.setDescriptor d
            { r with state := .done, result := some code, attemptsUsed := 0, stamp := some stamp }).setRequestAnswer d
            { old with stamp := stamp })

/-! ### Views and the data port -/

/-- COMMIT_CALL (R91, R92, R93): refused BAD_PARAM for the index, NOT_DEFINED, PENDING while a commit waits, IN_USE
while the station's call view is open; on a STOPPED or HALTED line the halves are exchanged at once; on a RUNNING or
STOPPING one commit pending is set. -/
def Obligations.CommitCallActs : Prop :=
  (∀ (s : State) (p : TakenCommand), s.inProgress 0x40 = some p →
    (32 ≤ fieldOf p.param0 0 8 → exec .commitCall s = .next (s.completed .badParam 1))
    ∧ ∀ i : Fin 32, fieldOf p.param0 0 8 = i.val →
      let r := s.stationAt i
      let control := (s.engineAt r.line).control
      (r.defined = false → exec .commitCall s = .next (s.completed .notDefined 0))
      ∧ (r.defined = true → r.commitPending = true → exec .commitCall s = .next (s.completed .pending 0))
      ∧ (r.defined = true → r.commitPending = false → s.port.view = some (.stationCall i) →
        exec .commitCall s = .next (s.completed .inUse 0))
      ∧ (r.defined = true → r.commitPending = false → s.port.view ≠ some (.stationCall i) →
        (control = .stopped ∨ control = .halted →
          exec .commitCall s = .next ((s.setCallPair i (s.callPairAt i).swap).completed .ok 0))
        ∧ (control = .running ∨ control = .stopping →
          exec .commitCall s = .next ((s.setStation i { r with commitPending := true }).completed .okDeferred 0))))
    ∧ ∀ pair : CallPair, pair.swap.live = pair.staged ∧ pair.swap.staged = pair.live

/-- OPEN_VIEW and CLOSE_VIEW (R173, R174, R178, R100): a kind or an index out of range, and a station or descriptor in
a refusing state, refuse; else the open view is closed, a FREE descriptor of a REQ_CALL view becomes OPEN, and the view
opens at offset 0 with an empty read-ahead and, for the INFO kinds, its snapshot, whose bytes stand in the order of R190
and R192, a word's low byte first (R188), an absent field as R188 codes it; RESULT1 is the view's size, which is the
number of its bytes. -/
def Obligations.ViewsOpenAndClose : Prop :=
  ∀ (s : State) (p : TakenCommand),
    (s.inProgress 0x41 = some p →
      (fieldOf p.param0 0 8 = 0 ∨ 9 ≤ fieldOf p.param0 0 8 → exec .openView s = .next (s.completed .badParam 4))
      ∧ (1 ≤ fieldOf p.param0 0 8 → fieldOf p.param0 0 8 ≤ 3 → 32 ≤ fieldOf p.param0 8 8 →
        exec .openView s = .next (s.completed .badParam 1))
      ∧ (4 ≤ fieldOf p.param0 0 8 → fieldOf p.param0 0 8 ≤ 5 → 16 ≤ fieldOf p.param0 8 8 →
        exec .openView s = .next (s.completed .badParam 2))
      ∧ (6 ≤ fieldOf p.param0 0 8 → fieldOf p.param0 0 8 ≤ 8 → 2 ≤ fieldOf p.param0 8 8 →
        exec .openView s = .next (s.completed .badParam 3))
      ∧ ∀ v, loByte p.param0 = (viewCodes v).1 → hiByte p.param0 = (viewCodes v).2 →
        let refusal : Option CommandResult := match v with
          | .stationCall i =>
            if (s.stationAt i).defined = false then some .notDefined
            else if (s.stationAt i).commitPending then some .pending else none
          | .stationAnswer i => if (s.stationAt i).defined = false then some .notDefined else none
          | .requestCall d =>
            if (s.descriptorAt d).state = .free ∨ (s.descriptorAt d).state = .opened then none else some .wrongState
          | .requestAnswer d => if (s.descriptorAt d).state = .done then none else some .wrongState
          | .stationInfo _ | .sweepBuild _ | .safeCall _ | .lineInfo _ => none
        let closed := closeOpenView s
        let reserved := match v with
          | .requestCall d => closed.setDescriptor d { closed.descriptorAt d with state := .opened }
          | _ => closed
        let opened := { reserved with
          port := { reserved.port with view := some v, offset := 0, readAhead := none,
                                       snapshot := snapshotFor reserved v } }
        (∀ result, refusal = some result → exec .openView s = .next (s.completed result 0))
        ∧ (refusal = none → exec .openView s = .next (opened.completed .ok (viewSize v)))
        ∧ (viewBytes opened v).length = viewSize v)
    ∧ (∀ i, snapshotFor s (.stationInfo i) =
        let r := s.stationAt i
        [byteOf i.val, yesNo r.defined, lineCode r.line, r.address.getD 0x00, r.functionCode, byteOf r.retryLimit,
          byteOf r.offlineLimit, byteOf r.probeInterval, healthCode r.health, byteOf r.failureCount,
          byteOf r.probeCountdown, (match r.lastOutcome with | some o => exchangeResultCode o | none => 0xFF),
          yesNo (decide (r.lastStatus ≠ none)), r.lastStatus.getD 0x00, yesNo r.alertLatched,
          loByte r.answerSequence, hiByte r.answerSequence, byteOf r.overtakenCount, yesNo r.commitPending,
          yesNo r.publishPending])
    ∧ (∀ x, snapshotFor s (.lineInfo x) =
        let g := s.engineAt x
        let c := s.sweepAt x
        let timeout := wordOf g.config.answerTimeout
        let flag (bit : Byte) (on : Bool) : Byte := if on then bit else 0
        [lineCode x, byteOf (lineStateCode g.control), yesNo g.configured, haltCauseCode g.haltCause,
          yesNo g.abortPending, yesNo g.windDown, byteOf g.config.divisor, modeCode g.config.mode, loByte timeout,
          hiByte timeout, byteOf g.config.gapLimit, byteOf g.config.guardTime, byteOf g.config.urgentBurst,
          flag 0x01 g.config.sweepEndEnable ||| flag 0x02 g.config.markEnable ||| flag 0x04 g.config.safeCallEnable,
          loByte c.count, hiByte c.count, sweepStateCode c.state, yesNo c.pendingStart, byteOf c.live.length,
          yesNo (decide (c.shadow ≠ none)), (match c.shadow with | some list => byteOf list.length | none => 0x00),
          exchangeStateCode g.exState, loByte (wordOf c.period), hiByte (wordOf c.period), loByte (wordOf c.counter),
          hiByte (wordOf c.counter), (match g.exchange with | some e => exchangeKindCode e.kind | none => 0x00),
          (match g.exchange.bind fun e => e.station with | some i => byteOf i.val | none => 0xFF),
          (match g.exchange.bind fun e => e.descriptor with | some d => byteOf d.val | none => 0xFF),
          (match g.exchange with | some e => byteOf e.made | none => 0x00), loByte g.exchanges, hiByte g.exchanges,
          loByte (wordOf g.failed), hiByte (wordOf g.failed), byteOf g.deferredOverruns, byteOf g.droppedOverruns,
          byteOf g.stray, byteOf (s.fifo x .urgent).length, byteOf (s.fifo x .normal).length, yesNo c.timerRunning])
    ∧ (s.inProgress 0x42 = some p →
      exec .closeView s = .next ((closeOpenView s).completed .ok (if s.port.view = none then 0 else 1)))
    ∧ (∀ i, s.port.view = some (.stationAnswer i) → (s.stationAt i).publishPending = true →
      let t := closeOpenView s
      (t.answerPairAt i).published =
          { (s.answerPairAt i).spare with sequence := (s.stationAt i).answerSequence + 1 }
        ∧ (t.answerPairAt i).spare = (s.answerPairAt i).published
        ∧ t = { s.setStation i
                { s.stationAt i with answerSequence := (s.stationAt i).answerSequence + 1, publishPending := false } with
                store := { s.store with answers := t.store.answers },
                port := { s.port with view := none, offset := 0, readAhead := none, snapshot := [] } })
    ∧ ((∀ i, s.port.view = some (.stationAnswer i) → (s.stationAt i).publishPending = false) →
      closeOpenView s = { s with port := { s.port with view := none, offset := 0, readAhead := none, snapshot := [] } })

/-- A read of DATA (R175, R176, R177) and a write to VIEW_OFFSET (R176): the read drives the bytes of the open view at
the offset, from the read-ahead where it matches, moves the offset on by the bytes moved and fills the read-ahead
anew; with no view open it returns 0. The bytes of a view stand at the offsets of R190, a word's low byte first (R188).
The register `dataOut` of the word driven last is the model's (log 8), as is 00h for a REQ_ANSWER field that is absent,
which no DONE descriptor has (log 25). -/
def Obligations.DataReadsMoveTheOffset : Prop :=
  ∀ (s : State) (lanes : Lanes), windowOpen s = true →
    (∀ v, s.port.view = some v →
      let byteAt (k : Byte) : Byte := (viewBytes s v).getD k.toNat 0
      let next : Byte := s.port.offset + if lanes = .word then 2 else 1
      let reads (first second : Byte) : Prop :=
        exec (.dataRead lanes) s =
          .next { s with
            port := { s.port with
              offset := next, readAhead := some { offset := next, first := byteAt next, second := byteAt (next + 1) },
              dataOut := match lanes with
                | .word => makeWord first second
                | .low => makeWord first (hiByte s.port.dataOut)
                | .high => makeWord (loByte s.port.dataOut) first } }
      (∀ ahead, s.port.readAhead = some ahead → ahead.offset = s.port.offset → reads ahead.first ahead.second)
      ∧ ((∀ ahead, s.port.readAhead = some ahead → ahead.offset ≠ s.port.offset) →
        reads (byteAt s.port.offset) (byteAt (s.port.offset + 1))))
    ∧ (s.port.view = none →
      exec (.dataRead lanes) s = .next { s with port := { s.port with dataOut := mergeLanes lanes s.port.dataOut 0 } })
    ∧ (∀ i, viewBytes s (.stationCall i) =
        byteOf (s.callPairAt i).staged.length :: (s.callPairAt i).staged.bytes.toList)
    ∧ (∀ i, viewBytes s (.stationAnswer i) =
        let h := (s.answerPairAt i).published
        [yesNo h.valid, byteOf h.length, h.status, loByte h.stamp, hiByte h.stamp, loByte h.sequence,
          hiByte h.sequence] ++ h.bytes.toList)
    ∧ (∀ i, viewBytes s (.stationInfo i) = s.port.snapshot)
    ∧ (∀ d, viewBytes s (.requestCall d) = byteOf (s.requestCallAt d).length :: (s.requestCallAt d).bytes.toList)
    ∧ (∀ d, viewBytes s (.requestAnswer d) =
        let r := s.descriptorAt d
        let h := s.requestAnswerAt d
        let stamp := r.stamp.getD 0
        [descriptorStateCode r.state, r.tag, (match r.target with | some z => targetCode z | none => 0x00),
          lineCode r.line, r.functionCode, urgencyCode r.urgency, byteOf r.answerMax, byteOf r.attemptsUsed,
          (match r.result with | some o => exchangeResultCode o | none => 0x00), loByte stamp, hiByte stamp,
          yesNo h.valid, byteOf h.length, h.status, loByte h.stamp, hiByte h.stamp] ++ h.bytes.toList)
    ∧ (∀ x, viewBytes s (.sweepBuild x) =
        (s.store.builds.get x).length :: (s.store.builds.get x).slotBytes.toList)
    ∧ (∀ x, viewBytes s (.safeCall x) =
        let b := s.store.safeCalls.get x
        [b.functionCode, byteOf b.length] ++ b.bytes.toList)
    ∧ (∀ x, viewBytes s (.lineInfo x) = s.port.snapshot)
    ∧ ∀ data : Word,
      (lanes ≠ .high → s.port.view ≠ none →
        exec (.viewOffsetWrite lanes data) s =
          .next { s with port := { s.port with offset := loByte data, readAhead := none } })
      ∧ (lanes = .high ∨ s.port.view = none → exec (.viewOffsetWrite lanes data) s = .next s)

/-- A write of DATA (R175, R176, R177, R89): a byte lands in a view with write access, below its size and, in a length
field of 0 to 32, only up to 32; every other byte of every view stays; the offset moves on and the read-ahead is
emptied. The high lane moves its byte in the same way, and a word is its low byte and then its high byte; with no view
open a write is ignored. -/
def Obligations.DataWritesLandWhereTheyMay : Prop :=
  ∀ (s : State) (data : Word), windowOpen s = true →
    (∀ v, s.port.view = some v →
      let k := s.port.offset.toNat
      let lands : Prop := match v with
        | .stationCall _ | .requestCall _ => k < 33 ∧ (k = 0 → (loByte data).toNat ≤ 32)
        | .safeCall _ => k < 34 ∧ (k = 1 → (loByte data).toNat ≤ 32)
        | .sweepBuild _ => k < 145
        | .stationAnswer _ | .stationInfo _ | .requestAnswer _ | .lineInfo _ => False
      ∃ t, exec (.dataWrite .low data) s = .next t
        ∧ t = { s with store := t.store,
                       port := { s.port with offset := s.port.offset + 1, readAhead := none } }
        ∧ (lands → (viewBytes t v)[k]? = some (loByte data)) ∧ (¬ lands → t.store = s.store)
        ∧ (∀ j, j ≠ k → (viewBytes t v)[j]? = (viewBytes s v)[j]?)
        ∧ (∀ w, w ≠ v → viewBytes t w = viewBytes s w) ∧ (∀ i, (t.callPairAt i).live = (s.callPairAt i).live)
        ∧ t.store.answers = s.store.answers ∧ t.store.requestAnswers = s.store.requestAnswers)
    ∧ exec (.dataWrite .high data) s = exec (.dataWrite .low (makeWord (hiByte data) 0)) s
    ∧ (∀ t, exec (.dataWrite .low data) s = .next t → exec (.dataWrite .word data) s = exec (.dataWrite .high data) t)
    ∧ (s.port.view = none → ∀ lanes, exec (.dataWrite lanes data) s = .next s)

/-! ### Interrupts -/

/-- A claim (R161): the requesting source of the highest level, the earliest in chain order among several, where that
level is above the service level: its flag clears, the service level is pushed and raised, IRQ decided anew, and the
read returns its id and level; else NONE with the service level, and nothing changes but the model's `dataOut`, the
word driven last (log 8). -/
def Obligations.ClaimTakesTheWinner : Prop :=
  ∀ (s : State) (lanes : Lanes), windowOpen s = true →
    let a := s.arbiter
    let n := s.events.records.length
    let requests (src : Source) : Prop := a.conditionOf n src = true ∧ a.levelOf src ≠ 0
    let driven (w : Word) : HostPort := { s.port with dataOut := mergeLanes lanes s.port.dataOut w }
    (∀ src, requests src → a.service < a.levelOf src →
      (∀ other, requests other → a.levelOf other < a.levelOf src
        ∨ a.levelOf other = a.levelOf src ∧ (sourceCode src).toNat ≤ (sourceCode other).toNat) →
      exec (.intClaim lanes) s =
        .next { s with
          port := driven (makeWord (sourceCode src) ((a.levelOf src).setWidth 8)),
          arbiter := ({ a with
            stack := a.service :: a.stack, service := a.levelOf src,
            pendingSupervision := a.pendingSupervision && decide (src ≠ .supervision),
            pendingLineA := a.pendingLineA && decide (src ≠ .lineA),
            pendingLineB := a.pendingLineB && decide (src ≠ .lineB),
            pendingCommand := a.pendingCommand && decide (src ≠ .command) } : Arbiter).settled n })
    ∧ ((∀ src, requests src → a.levelOf src ≤ a.service) →
      exec (.intClaim lanes) s = .next { s with port := driven (makeWord 0x00 (a.service.setWidth 8)) })

/-- The other accesses of the Arbiter: an end of service (R163), a direct write of the service level (R164), a read of
INT_STATUS, which clears the EOS error flag by the byte that holds it alone (R165) and shows the stack depth (R156,
R188), a write to INT_PEND (R166) and to the level registers (R158, R159), each with IRQ decided anew where a rule says
so, and nothing else changed but the model's `dataOut` (log 8). -/
def Obligations.ArbiterAccessesAct : Prop :=
  ∀ (s : State) (lanes : Lanes) (data : Word), windowOpen s = true →
    let a := s.arbiter
    let becomes (b : Arbiter) : State := { s with arbiter := b.settled s.events.records.length }
    let flagged : State := { s with arbiter := { a with eosError := true } }
    let low := lanes ≠ .high
    let high := lanes ≠ .low
    (∀ top rest, a.stack = top :: rest →
      exec (.intEos lanes data) s = .next (becomes { a with service := top, stack := rest }))
    ∧ (a.stack = [] → exec (.intEos lanes data) s = .next flagged)
    ∧ (low → a.stack = [] → (loByte data).toNat < 8 →
      exec (.intSvcWrite lanes data) s = .next (becomes { a with service := (loByte data).setWidth 3 }))
    ∧ (low → a.stack ≠ [] ∨ 8 ≤ (loByte data).toNat → exec (.intSvcWrite lanes data) s = .next flagged)
    ∧ (lanes = .high → exec (.intSvcWrite lanes data) s = .next s ∧ exec (.intPendWrite lanes data) s = .next s)
    ∧ (high →
      exec (.intStatusRead lanes) s =
        .next { s with arbiter := { a with eosError := false },
                       port := { s.port with dataOut := mergeLanes lanes s.port.dataOut (intStatusWord s) } })
    ∧ (lanes = .low →
      exec (.intStatusRead lanes) s =
        .next { s with port := { s.port with dataOut := mergeLanes lanes s.port.dataOut (intStatusWord s) } })
    ∧ (a.stack.length ≤ 7 → ((intStatusWord s).extractLsb' 4 3).toNat = a.stack.length)
    ∧ intStatusWord s &&& 0xFE80 = 0
    ∧ (intStatusWord s).getLsbD 0 = a.irq ∧ (intStatusWord s).extractLsb' 1 3 = a.service
    ∧ (intStatusWord s).getLsbD 8 = a.eosError
    ∧ (low →
      exec (.intPendWrite lanes data) s =
        .next (becomes { a with
          pendingSupervision := a.pendingSupervision && !data.getLsbD 0,
          pendingLineA := a.pendingLineA && !data.getLsbD 1, pendingLineB := a.pendingLineB && !data.getLsbD 2,
          pendingCommand := a.pendingCommand && !data.getLsbD 4 }))
    ∧ exec (.intLevelsWrite .levels0 lanes data) s =
        .next (becomes { a with
          levelSupervision := if low then data.extractLsb' 0 3 else a.levelSupervision,
          levelLineA := if low then data.extractLsb' 4 3 else a.levelLineA,
          levelLineB := if high then data.extractLsb' 8 3 else a.levelLineB,
          levelEvents := if high then data.extractLsb' 12 3 else a.levelEvents })
    ∧ exec (.intLevelsWrite .levels1 lanes data) s =
        .next (becomes { a with
          levelCommand := if low then data.extractLsb' 0 3 else a.levelCommand,
          threshold := if high ∧ 1 ≤ fieldOf data 8 6 ∧ fieldOf data 8 6 ≤ 32 then fieldOf data 8 6
            else a.threshold })

/-! ### Supervision -/

/-- SET_SUPERVISION (R141) and SUPV_REFRESH (R142): BAD_PARAM above 255, PENDING with the lines that wind down, else OFF
for period 0 and ARMED with the countdown loaded; a refresh loads the countdown of an ARMED timer and does nothing
else; that both start the millisecond phase `subMs` anew is the model's choice (log 34). -/
def Obligations.SupervisionIsSetAndRefreshed : Prop :=
  (∀ (s : State) (p : TakenCommand), s.inProgress 0x50 = some p →
    let windsDown (x : Line) : Prop := (s.engineAt x).windDown = true
    (256 ≤ p.param0.toNat → exec .setSupervision s = .next (s.completed .badParam 1))
    ∧ (p.param0.toNat ≤ 255 →
      (windsDown .a → ¬ windsDown .b → exec .setSupervision s = .next (s.completed .pending 1))
      ∧ (¬ windsDown .a → windsDown .b → exec .setSupervision s = .next (s.completed .pending 2))
      ∧ (windsDown .a → windsDown .b → exec .setSupervision s = .next (s.completed .pending 3))
      ∧ (¬ windsDown .a → ¬ windsDown .b →
        exec .setSupervision s =
          .next (State.completed { s with
            supervision :=
              if p.param0 = 0 then { state := .off, period := 0, countdown := 0, subMs := 0 }
              else { state := .armed, period := p.param0.toNat, countdown := p.param0.toNat, subMs := 0 } } .ok 0))))
    ∧ ∀ (s : State) (lanes : Lanes) (data : Word), windowOpen s = true →
      (s.supervision.state = .armed →
        exec (.supvRefresh lanes data) s =
          .next { s with supervision := { s.supervision with countdown := s.supervision.period, subMs := 0 } })
      ∧ (s.supervision.state ≠ .armed → exec (.supvRefresh lanes data) s = .next s)

/-- The expiry of an ARMED countdown at 0 (R143 to R145): EXPIRED, SUPERVISION pending, its record before every record
of a line; then each line by its state: wind-down with an exchange in flight, the safe call where enabled, HALTED with
cause SUPERVISION where not, or nothing. A line that halts makes its whole entry (R136): its sweep at rest with MARK
low, its commits taken and their halves exchanged, COMMIT_TAKEN in ascending order and then LINE_STATE among its
records, its interrupt source pending; between the two lines' records the order is open (log 6); that nothing else comes
between the flags and records of this step is the model's choice (log 40). All else stays; while READY is 0 no line acts
(R186). A timer that is not ARMED, or whose countdown a refresh or SET_SUPERVISION loaded first, does not expire (R142).
In a guard time the safe call's record stands at once and its image is taken anew when the guard time expires: how
R144's start is read is the model's (log 17). -/
def Obligations.ExpiryWindsTheLinesDown : Prop :=
  ∀ s : State,
    let inService (x : Line) : Prop := ((s.engineAt x).control = .running ∨ (s.engineAt x).control = .stopping)
      ∧ (s.engineAt x).abortPending = false
    let acts (x : Line) : Prop := inService x ∨ (s.engineAt x).control = .stopped ∧ (s.engineAt x).configured = true
    let idle (x : Line) : Prop := inService x → (s.engineAt x).exchange = none
    let halts (x : Line) : Prop := s.port.ready = true ∧ acts x ∧ idle x ∧ (s.engineAt x).config.safeCallEnable = false
    let commits (x : Line) (i : Fin 32) : Bool := (s.stationAt i).commitPending && decide ((s.stationAt i).line = x)
    (s.supervision.state ≠ .armed ∨ s.supervision.countdown ≠ 0 → exec .supervisionExpiry s = .next s)
    ∧ (s.supervision.state = .armed → s.supervision.countdown = 0 →
      ∃ (t : State) (more : List EventRecord), exec .supervisionExpiry s = .next t
        ∧ t = { s with supervision := { s.supervision with state := .expired }, engine := t.engine, sweep := t.sweep,
                       stations := t.stations, store := { s.store with calls := t.store.calls }, events := t.events,
                       arbiter := t.arbiter, freeCount := t.freeCount }
        ∧ t.events = more.foldl EventQueue.arrive (s.events.arrive
            { kind := .supervisionExpired, line := none, index := none, tag := none,
              code := some (byteOf s.supervision.period), aux := none, stamp := 0 })
        ∧ (∀ r ∈ more, r.line ≠ none)
        ∧ (∃ linesPending : Line → Bool, (∀ x, linesPending x = true ↔ halts x)
          ∧ t.arbiter =
            ({ s.arbiter with
                pendingSupervision := true, pendingLineA := s.arbiter.pendingLineA || linesPending .a,
                pendingLineB := s.arbiter.pendingLineB || linesPending .b } : Arbiter).settled t.events.records.length)
        ∧ ∀ x,
          let g := s.engineAt x
          let c := s.sweepAt x
          let b := s.store.safeCalls.get x
          let e : Exchange :=
            { kind := .safeCall, station := none, descriptor := none, address := 63, functionCode := b.functionCode,
              image := b.bytes.toList.take b.length, answerMax := none, busyRetry := false, allowed := 1, made := 0,
              outcome := none }
          (¬ acts x ∨ s.port.ready = false → t.engineAt x = g)
          ∧ (s.port.ready = true → inService x → g.exchange ≠ none → t.engineAt x = { g with windDown := true })
          ∧ (s.port.ready = true → acts x → idle x → g.config.safeCallEnable = true →
            (g.exState = .idle →
              t.engineAt x =
                { g with windDown := true, exState := .calling, exchange := some { e with made := 1 },
                         driverEnable := true, sending := some { frame := e.callFrame, elapsed := 0 }, span := none,
                         reception := none, lowSpan := none, edge := none })
            ∧ (g.exState = .guarding → t.engineAt x = { g with windDown := true, exchange := some e }))
          ∧ (halts x →
            t.engineAt x =
              { g with control := .halted, haltCause := .supervision, abortPending := false, windDown := false,
                       exState := .idle, exchange := none, span := none, reception := none, lowSpan := none,
                       edge := none, driverEnable := false, sending := none }
            ∧ t.sweepAt x =
              { c with state := .inactive, pendingStart := false, pointer := 1, burst := 0, executed := 0,
                       skipped := 0, normalServed := false, exchangeTaken := false, timerRunning := false,
                       mark := false }
            ∧ (more.filter fun r => decide (r.line = some x)) =
              ((List.finRange 32).filter (commits x)).map (fun i =>
                { kind := .commitTaken, line := some x, index := some i.val, tag := none,
                  code := some (byteOf (s.callPairAt i).staged.length), aux := some 0x02, stamp := c.count })
                ++ [{ kind := .lineState, line := some x, index := none, tag := none, code := some 0x03,
                      aux := some 0x03, stamp := c.count }])
          ∧ (¬ halts x → t.sweepAt x = c ∧ ∀ r ∈ more, r.line ≠ some x)
          ∧ ∀ i, (halts x → commits x i = true → t.stationAt i = { s.stationAt i with commitPending := false }
              ∧ (t.callPairAt i).live = (s.callPairAt i).staged ∧ (t.callPairAt i).staged = (s.callPairAt i).live)
            ∧ ((s.stationAt i).line = x → ¬ halts x ∨ commits x i = false →
              t.stationAt i = s.stationAt i ∧ t.callPairAt i = s.callPairAt i))

/-! ### The Command Engine and the resets -/

/-- Writes to CMD and to ordinary registers, and the completion of an unknown code (R168, R169, R180, R181, R184,
R186): while IDLE or DONE the merged code and the parameters are taken, the collision flag clears and the state is
BUSY, a SOFT_RESET putting READY to 0 and ending the lines' activity at the take (log 13), where a line in CALLING is
STOPPING until its character ends, be it a STOPPED one that sends a safe call (log 39); while BUSY the flag is set;
PARAM0 to PARAM3 merge; a code that is none of the 21 completes UNKNOWN_COMMAND. -/
def Obligations.CommandWritesAct : Prop :=
  ∀ (s : State),
    (windowOpen s = true → ∀ (lanes : Lanes) (data : Word),
      let cmd := mergeLanes lanes s.command.cmd data
      let c := s.command
      let taken : TakenCommand :=
        { code := cmd, param0 := c.param0, param1 := c.param1, param2 := c.param2, param3 := c.param3 }
      let busy : CommandEngine := { c with cmd := cmd, taken := some taken, state := .busy }
      (∀ i, i = Instr.commandTake lanes data ∨ i = .commandCollision lanes data →
        (c.state ≠ .busy → loByte cmd ≠ 0x5F →
          exec i s = .next { s with command := busy, port := { s.port with collision := false } })
        ∧ (c.state ≠ .busy → loByte cmd = 0x5F → ∃ t, exec i s = .next t
          ∧ t = { s with command := busy, port := { s.port with collision := false, ready := false },
                         engine := t.engine, sweep := t.sweep }
          ∧ ∀ x, ((s.engineAt x).exState = .calling →
              t.engineAt x = { s.engineAt x with abortPending := true, control := .stopping })
            ∧ ((s.engineAt x).exState ≠ .calling → (s.engineAt x).control ≠ .halted →
              (t.engineAt x).control = .stopped ∧ (t.engineAt x).exchange = none
                ∧ (t.engineAt x).exState = .idle ∧ (t.sweepAt x).state = .inactive))
        ∧ (c.state = .busy →
          exec i s = .next { s with command := { c with cmd := cmd }, port := { s.port with collision := true } }))
      ∧ exec (.registerWrite 0x02 lanes data) s =
          .next { s with command := { c with param0 := mergeLanes lanes c.param0 data } }
      ∧ exec (.registerWrite 0x03 lanes data) s =
          .next { s with command := { c with param1 := mergeLanes lanes c.param1 data } }
      ∧ exec (.registerWrite 0x04 lanes data) s =
          .next { s with command := { c with param2 := mergeLanes lanes c.param2 data } }
      ∧ exec (.registerWrite 0x05 lanes data) s =
          .next { s with command := { c with param3 := mergeLanes lanes c.param3 data } }
      ∧ ∀ address, hasRowOfItsOwn address lanes = false → address ∉ [0x02#5, 0x03#5, 0x04#5, 0x05#5] →
        exec (.registerWrite address lanes data) s = .next s)
    ∧ ∀ p, s.command.state = .busy → s.command.taken = some p → loByte p.code ∉ commandCodes →
      exec .unknownCommand s = .next (s.completed .unknownCommand 0)

/-- The resets and the closed window (R186, R187): SOFT_RESET completes, with no frame on the lines, with every block at
its reset value, READY 1 and DONE; the RESET pin's fall and its return put every block to its reset value with READY 0,
READY then becomes 1; while READY is 0 or the pin low writes change nothing, and a claim or a read returns 0 and takes
nothing. What is the model's: the word driven last, `dataOut` (log 8), the receive pins kept (log 9), the count of free
values kept (log 7), and the moments of the ends (logs 13 to 15). -/
def Obligations.ResetsClearEveryBlock : Prop :=
  ∀ s : State,
    let cleared (ready : Bool) (pins : Pins) (state : CommandState) : State :=
      { State.reset with
        pending := s.pending, pins := pins, freeCount := s.freeCount,
        port := { HostPort.reset with ready := ready, dataOut := s.port.dataOut },
        command := { CommandEngine.reset with state := state } }
    (∀ p, s.inProgress 0x5F = some p → (s.engineAt .a).driverEnable = false → (s.engineAt .b).driverEnable = false →
      exec .softReset s = .next (cleared true s.pins .done))
    ∧ (s.pins.reset = .high → exec .pinResetAssert s = .next (cleared false { s.pins with reset := .low } .idle))
    ∧ (s.pins.reset = .low → exec .pinResetRelease s = .next (cleared false { s.pins with reset := .high } .idle))
    ∧ (s.pins.reset = .high → s.port.ready = false → s.command.state = .idle →
      exec .readyAfterReset s = .next { s with port := { s.port with ready := true } })
    ∧ (s.pins.reset = .low ∨ s.port.ready = false → ∀ (lanes : Lanes) (data : Word),
      (∀ i, i ∈ [Instr.commandTake lanes data, .commandCollision lanes data, .evtAdvance lanes data,
          .intEos lanes data, .intSvcWrite lanes data, .intPendWrite lanes data, .intLevelsWrite .levels0 lanes data,
          .intLevelsWrite .levels1 lanes data, .supvRefresh lanes data, .dataWrite lanes data,
          .viewOffsetWrite lanes data] → exec i s = .next s)
      ∧ (∀ address, exec (.registerWrite address lanes data) s = .next s)
      ∧ ∀ i, i ∈ [Instr.intClaim lanes, .intStatusRead lanes, .dataRead lanes] →
        exec i s = .next { s with port := { s.port with dataOut := mergeLanes lanes s.port.dataOut 0 } })

/-- Reads without an effect (R151, R154, R164, R166, R168, R170, R186, R187, R188): 0 while the RESET pin is low; STATUS
shows READY, the command state, the collision flag, the lines and the Supervision Timer; while READY is 0 every other
register reads 0; else the command registers, the open view and its offset, the head record, the counts, the service
level, the pending sources, the levels and threshold, the supervision period and countdown; write-only registers and
addresses not used read 0. INT_CLAIM, INT_STATUS and DATA have read rows of their own. -/
def Obligations.WindowReadsShowTheRegisters : Prop :=
  ∀ s : State,
    (s.pins.reset = .low → ∀ address, windowRead s address = 0)
    ∧ (s.pins.reset = .high →
      let status := windowRead s 0x00
      let c := s.command
      let pend := windowRead s 0x18
      let levels0 := windowRead s 0x19
      let levels1 := windowRead s 0x1A
      status.getLsbD 0 = s.port.ready ∧ (status.extractLsb' 1 2).toNat = commandStateCode c.state
        ∧ status.getLsbD 3 = s.port.collision
        ∧ (status.extractLsb' 4 2).toNat = lineStateCode (s.engineAt .a).control
        ∧ (status.extractLsb' 6 2).toNat = lineStateCode (s.engineAt .b).control
        ∧ (status.extractLsb' 8 2).toNat = supervisionCode s.supervision.state ∧ status &&& 0xFC00 = 0
        ∧ (s.port.ready = false → ∀ address, address ≠ 0x00 → windowRead s address = 0)
        ∧ (s.port.ready = true →
          windowRead s 0x01 = c.cmd ∧ windowRead s 0x02 = c.param0 ∧ windowRead s 0x03 = c.param1
            ∧ windowRead s 0x04 = c.param2 ∧ windowRead s 0x05 = c.param3 ∧ windowRead s 0x06 = c.result0
            ∧ windowRead s 0x07 = c.result1 ∧ windowRead s 0x09 = makeWord s.port.offset 0x00
            ∧ (s.events.records = [] → windowRead s 0x0C = 0xFF00 ∧ windowRead s 0x0D = 0x00FF
              ∧ windowRead s 0x0E = 0 ∧ windowRead s 0x0F = 0)
            ∧ (∀ r rest, s.events.records = r :: rest →
              windowRead s 0x0C = makeWord (eventKindCode r.kind) ((r.line.map lineCode).getD 0xFF)
                ∧ windowRead s 0x0D = makeWord ((r.index.map byteOf).getD 0xFF) (r.tag.getD 0x00)
                ∧ windowRead s 0x0E = makeWord (r.code.getD 0x00) (r.aux.getD 0x00) ∧ windowRead s 0x0F = r.stamp)
            ∧ windowRead s 0x10 = makeWord (byteOf s.events.records.length) (byteOf s.events.lost)
            ∧ (s.port.view = none → windowRead s 0x08 = 0xFF00)
            ∧ (∀ i : Fin 32,
              (s.port.view = some (.stationCall i) → windowRead s 0x08 = makeWord 0x01 (byteOf i.val))
              ∧ (s.port.view = some (.stationAnswer i) → windowRead s 0x08 = makeWord 0x02 (byteOf i.val))
              ∧ (s.port.view = some (.stationInfo i) → windowRead s 0x08 = makeWord 0x03 (byteOf i.val)))
            ∧ (∀ d : Fin 16,
              (s.port.view = some (.requestCall d) → windowRead s 0x08 = makeWord 0x04 (byteOf d.val))
              ∧ (s.port.view = some (.requestAnswer d) → windowRead s 0x08 = makeWord 0x05 (byteOf d.val)))
            ∧ (∀ x : Line,
              (s.port.view = some (.sweepBuild x) → windowRead s 0x08 = makeWord 0x06 (lineCode x))
              ∧ (s.port.view = some (.safeCall x) → windowRead s 0x08 = makeWord 0x07 (lineCode x))
              ∧ (s.port.view = some (.lineInfo x) → windowRead s 0x08 = makeWord 0x08 (lineCode x)))
            ∧ levels0.extractLsb' 0 3 = s.arbiter.levelSupervision ∧ levels0.extractLsb' 4 3 = s.arbiter.levelLineA
            ∧ levels0.extractLsb' 8 3 = s.arbiter.levelLineB ∧ levels0.extractLsb' 12 3 = s.arbiter.levelEvents
            ∧ levels0 &&& 0x8888 = 0
            ∧ levels1.extractLsb' 0 3 = s.arbiter.levelCommand
            ∧ (s.arbiter.threshold < 64 →
              (levels1.extractLsb' 8 6).toNat = s.arbiter.threshold ∧ levels1 &&& 0xC0F8 = 0)
            ∧ windowRead s 0x1D = makeWord (byteOf s.supervision.period) (byteOf s.supervision.countdown)
            ∧ (∀ address ∈ [0x0B#5, 0x11#5, 0x12#5, 0x13#5, 0x15#5, 0x1B#5, 0x1C#5, 0x1E#5, 0x1F#5],
              windowRead s address = 0)
            ∧ windowRead s 0x16 = wordOf s.arbiter.service.toNat
            ∧ pend.getLsbD 0 = s.arbiter.pendingSupervision ∧ pend.getLsbD 1 = s.arbiter.pendingLineA
            ∧ pend.getLsbD 2 = s.arbiter.pendingLineB
            ∧ (pend.getLsbD 3 = true ↔ s.arbiter.threshold ≤ s.events.records.length)
            ∧ pend.getLsbD 4 = s.arbiter.pendingCommand ∧ pend &&& 0xFFE0 = 0))

end
end

