-- ==== Sys2Proof/Laws/State.lean ====
section
/-! SUPPORT. The small lemmas of the updates of State: one per field or accessor per update, and what each update's own
accessor reads after it. -/

namespace Sys2Proof.Machine

/-! ### One line's value -/

@[simp] theorem PerLine.get_set_self {α : Type} (p : PerLine α) (x : Line) (v : α) : (p.set x v).get x = v := by
  cases x <;> rfl

theorem PerLine.get_set_ne {α : Type} (p : PerLine α) {x y : Line} (v : α) (h : y ≠ x) :
    (p.set x v).get y = p.get y := by
  cases x <;> cases y <;> first | rfl | exact absurd rfl h

/-! ### Fields an update leaves -/

@[simp] theorem modEngine_pending (s : State) (x : Line) (f : LineEngine → LineEngine) : (s.modEngine x f).pending = s.pending := rfl
@[simp] theorem modEngine_pins (s : State) (x : Line) (f : LineEngine → LineEngine) : (s.modEngine x f).pins = s.pins := rfl
@[simp] theorem modEngine_port (s : State) (x : Line) (f : LineEngine → LineEngine) : (s.modEngine x f).port = s.port := rfl
@[simp] theorem modEngine_command (s : State) (x : Line) (f : LineEngine → LineEngine) : (s.modEngine x f).command = s.command := rfl
@[simp] theorem modEngine_stations (s : State) (x : Line) (f : LineEngine → LineEngine) : (s.modEngine x f).stations = s.stations := rfl
@[simp] theorem modEngine_store (s : State) (x : Line) (f : LineEngine → LineEngine) : (s.modEngine x f).store = s.store := rfl
@[simp] theorem modEngine_sweep (s : State) (x : Line) (f : LineEngine → LineEngine) : (s.modEngine x f).sweep = s.sweep := rfl
@[simp] theorem modEngine_pool (s : State) (x : Line) (f : LineEngine → LineEngine) : (s.modEngine x f).pool = s.pool := rfl
@[simp] theorem modEngine_events (s : State) (x : Line) (f : LineEngine → LineEngine) : (s.modEngine x f).events = s.events := rfl
@[simp] theorem modEngine_arbiter (s : State) (x : Line) (f : LineEngine → LineEngine) : (s.modEngine x f).arbiter = s.arbiter := rfl
@[simp] theorem modEngine_supervision (s : State) (x : Line) (f : LineEngine → LineEngine) : (s.modEngine x f).supervision = s.supervision := rfl
@[simp] theorem modEngine_freeCount (s : State) (x : Line) (f : LineEngine → LineEngine) : (s.modEngine x f).freeCount = s.freeCount := rfl

@[simp] theorem modSweep_pending (s : State) (x : Line) (f : SweepController → SweepController) : (s.modSweep x f).pending = s.pending := rfl
@[simp] theorem modSweep_pins (s : State) (x : Line) (f : SweepController → SweepController) : (s.modSweep x f).pins = s.pins := rfl
@[simp] theorem modSweep_port (s : State) (x : Line) (f : SweepController → SweepController) : (s.modSweep x f).port = s.port := rfl
@[simp] theorem modSweep_command (s : State) (x : Line) (f : SweepController → SweepController) : (s.modSweep x f).command = s.command := rfl
@[simp] theorem modSweep_stations (s : State) (x : Line) (f : SweepController → SweepController) : (s.modSweep x f).stations = s.stations := rfl
@[simp] theorem modSweep_store (s : State) (x : Line) (f : SweepController → SweepController) : (s.modSweep x f).store = s.store := rfl
@[simp] theorem modSweep_engine (s : State) (x : Line) (f : SweepController → SweepController) : (s.modSweep x f).engine = s.engine := rfl
@[simp] theorem modSweep_pool (s : State) (x : Line) (f : SweepController → SweepController) : (s.modSweep x f).pool = s.pool := rfl
@[simp] theorem modSweep_events (s : State) (x : Line) (f : SweepController → SweepController) : (s.modSweep x f).events = s.events := rfl
@[simp] theorem modSweep_arbiter (s : State) (x : Line) (f : SweepController → SweepController) : (s.modSweep x f).arbiter = s.arbiter := rfl
@[simp] theorem modSweep_supervision (s : State) (x : Line) (f : SweepController → SweepController) : (s.modSweep x f).supervision = s.supervision := rfl
@[simp] theorem modSweep_freeCount (s : State) (x : Line) (f : SweepController → SweepController) : (s.modSweep x f).freeCount = s.freeCount := rfl

@[simp] theorem setStation_pending (s : State) (i : Fin 32) (r : Station) : (s.setStation i r).pending = s.pending := rfl
@[simp] theorem setStation_pins (s : State) (i : Fin 32) (r : Station) : (s.setStation i r).pins = s.pins := rfl
@[simp] theorem setStation_port (s : State) (i : Fin 32) (r : Station) : (s.setStation i r).port = s.port := rfl
@[simp] theorem setStation_command (s : State) (i : Fin 32) (r : Station) : (s.setStation i r).command = s.command := rfl
@[simp] theorem setStation_store (s : State) (i : Fin 32) (r : Station) : (s.setStation i r).store = s.store := rfl
@[simp] theorem setStation_sweep (s : State) (i : Fin 32) (r : Station) : (s.setStation i r).sweep = s.sweep := rfl
@[simp] theorem setStation_engine (s : State) (i : Fin 32) (r : Station) : (s.setStation i r).engine = s.engine := rfl
@[simp] theorem setStation_pool (s : State) (i : Fin 32) (r : Station) : (s.setStation i r).pool = s.pool := rfl
@[simp] theorem setStation_events (s : State) (i : Fin 32) (r : Station) : (s.setStation i r).events = s.events := rfl
@[simp] theorem setStation_arbiter (s : State) (i : Fin 32) (r : Station) : (s.setStation i r).arbiter = s.arbiter := rfl
@[simp] theorem setStation_supervision (s : State) (i : Fin 32) (r : Station) : (s.setStation i r).supervision = s.supervision := rfl
@[simp] theorem setStation_freeCount (s : State) (i : Fin 32) (r : Station) : (s.setStation i r).freeCount = s.freeCount := rfl

@[simp] theorem setCallPair_pending (s : State) (i : Fin 32) (p : CallPair) : (s.setCallPair i p).pending = s.pending := rfl
@[simp] theorem setCallPair_pins (s : State) (i : Fin 32) (p : CallPair) : (s.setCallPair i p).pins = s.pins := rfl
@[simp] theorem setCallPair_port (s : State) (i : Fin 32) (p : CallPair) : (s.setCallPair i p).port = s.port := rfl
@[simp] theorem setCallPair_command (s : State) (i : Fin 32) (p : CallPair) : (s.setCallPair i p).command = s.command := rfl
@[simp] theorem setCallPair_stations (s : State) (i : Fin 32) (p : CallPair) : (s.setCallPair i p).stations = s.stations := rfl
@[simp] theorem setCallPair_sweep (s : State) (i : Fin 32) (p : CallPair) : (s.setCallPair i p).sweep = s.sweep := rfl
@[simp] theorem setCallPair_engine (s : State) (i : Fin 32) (p : CallPair) : (s.setCallPair i p).engine = s.engine := rfl
@[simp] theorem setCallPair_pool (s : State) (i : Fin 32) (p : CallPair) : (s.setCallPair i p).pool = s.pool := rfl
@[simp] theorem setCallPair_events (s : State) (i : Fin 32) (p : CallPair) : (s.setCallPair i p).events = s.events := rfl
@[simp] theorem setCallPair_arbiter (s : State) (i : Fin 32) (p : CallPair) : (s.setCallPair i p).arbiter = s.arbiter := rfl
@[simp] theorem setCallPair_supervision (s : State) (i : Fin 32) (p : CallPair) : (s.setCallPair i p).supervision = s.supervision := rfl
@[simp] theorem setCallPair_freeCount (s : State) (i : Fin 32) (p : CallPair) : (s.setCallPair i p).freeCount = s.freeCount := rfl

@[simp] theorem setAnswerPair_pending (s : State) (i : Fin 32) (p : AnswerPair) : (s.setAnswerPair i p).pending = s.pending := rfl
@[simp] theorem setAnswerPair_pins (s : State) (i : Fin 32) (p : AnswerPair) : (s.setAnswerPair i p).pins = s.pins := rfl
@[simp] theorem setAnswerPair_port (s : State) (i : Fin 32) (p : AnswerPair) : (s.setAnswerPair i p).port = s.port := rfl
@[simp] theorem setAnswerPair_command (s : State) (i : Fin 32) (p : AnswerPair) : (s.setAnswerPair i p).command = s.command := rfl
@[simp] theorem setAnswerPair_stations (s : State) (i : Fin 32) (p : AnswerPair) : (s.setAnswerPair i p).stations = s.stations := rfl
@[simp] theorem setAnswerPair_sweep (s : State) (i : Fin 32) (p : AnswerPair) : (s.setAnswerPair i p).sweep = s.sweep := rfl
@[simp] theorem setAnswerPair_engine (s : State) (i : Fin 32) (p : AnswerPair) : (s.setAnswerPair i p).engine = s.engine := rfl
@[simp] theorem setAnswerPair_pool (s : State) (i : Fin 32) (p : AnswerPair) : (s.setAnswerPair i p).pool = s.pool := rfl
@[simp] theorem setAnswerPair_events (s : State) (i : Fin 32) (p : AnswerPair) : (s.setAnswerPair i p).events = s.events := rfl
@[simp] theorem setAnswerPair_arbiter (s : State) (i : Fin 32) (p : AnswerPair) : (s.setAnswerPair i p).arbiter = s.arbiter := rfl
@[simp] theorem setAnswerPair_supervision (s : State) (i : Fin 32) (p : AnswerPair) : (s.setAnswerPair i p).supervision = s.supervision := rfl
@[simp] theorem setAnswerPair_freeCount (s : State) (i : Fin 32) (p : AnswerPair) : (s.setAnswerPair i p).freeCount = s.freeCount := rfl

@[simp] theorem setDescriptor_pending (s : State) (d : Fin 16) (r : Descriptor) : (s.setDescriptor d r).pending = s.pending := rfl
@[simp] theorem setDescriptor_pins (s : State) (d : Fin 16) (r : Descriptor) : (s.setDescriptor d r).pins = s.pins := rfl
@[simp] theorem setDescriptor_port (s : State) (d : Fin 16) (r : Descriptor) : (s.setDescriptor d r).port = s.port := rfl
@[simp] theorem setDescriptor_command (s : State) (d : Fin 16) (r : Descriptor) : (s.setDescriptor d r).command = s.command := rfl
@[simp] theorem setDescriptor_stations (s : State) (d : Fin 16) (r : Descriptor) : (s.setDescriptor d r).stations = s.stations := rfl
@[simp] theorem setDescriptor_store (s : State) (d : Fin 16) (r : Descriptor) : (s.setDescriptor d r).store = s.store := rfl
@[simp] theorem setDescriptor_sweep (s : State) (d : Fin 16) (r : Descriptor) : (s.setDescriptor d r).sweep = s.sweep := rfl
@[simp] theorem setDescriptor_engine (s : State) (d : Fin 16) (r : Descriptor) : (s.setDescriptor d r).engine = s.engine := rfl
@[simp] theorem setDescriptor_events (s : State) (d : Fin 16) (r : Descriptor) : (s.setDescriptor d r).events = s.events := rfl
@[simp] theorem setDescriptor_arbiter (s : State) (d : Fin 16) (r : Descriptor) : (s.setDescriptor d r).arbiter = s.arbiter := rfl
@[simp] theorem setDescriptor_supervision (s : State) (d : Fin 16) (r : Descriptor) : (s.setDescriptor d r).supervision = s.supervision := rfl
@[simp] theorem setDescriptor_freeCount (s : State) (d : Fin 16) (r : Descriptor) : (s.setDescriptor d r).freeCount = s.freeCount := rfl

@[simp] theorem setRequestCall_pending (s : State) (d : Fin 16) (c : CallBuffer) : (s.setRequestCall d c).pending = s.pending := rfl
@[simp] theorem setRequestCall_pins (s : State) (d : Fin 16) (c : CallBuffer) : (s.setRequestCall d c).pins = s.pins := rfl
@[simp] theorem setRequestCall_port (s : State) (d : Fin 16) (c : CallBuffer) : (s.setRequestCall d c).port = s.port := rfl
@[simp] theorem setRequestCall_command (s : State) (d : Fin 16) (c : CallBuffer) : (s.setRequestCall d c).command = s.command := rfl
@[simp] theorem setRequestCall_stations (s : State) (d : Fin 16) (c : CallBuffer) : (s.setRequestCall d c).stations = s.stations := rfl
@[simp] theorem setRequestCall_sweep (s : State) (d : Fin 16) (c : CallBuffer) : (s.setRequestCall d c).sweep = s.sweep := rfl
@[simp] theorem setRequestCall_engine (s : State) (d : Fin 16) (c : CallBuffer) : (s.setRequestCall d c).engine = s.engine := rfl
@[simp] theorem setRequestCall_pool (s : State) (d : Fin 16) (c : CallBuffer) : (s.setRequestCall d c).pool = s.pool := rfl
@[simp] theorem setRequestCall_events (s : State) (d : Fin 16) (c : CallBuffer) : (s.setRequestCall d c).events = s.events := rfl
@[simp] theorem setRequestCall_arbiter (s : State) (d : Fin 16) (c : CallBuffer) : (s.setRequestCall d c).arbiter = s.arbiter := rfl
@[simp] theorem setRequestCall_supervision (s : State) (d : Fin 16) (c : CallBuffer) : (s.setRequestCall d c).supervision = s.supervision := rfl
@[simp] theorem setRequestCall_freeCount (s : State) (d : Fin 16) (c : CallBuffer) : (s.setRequestCall d c).freeCount = s.freeCount := rfl

@[simp] theorem setRequestAnswer_pending (s : State) (d : Fin 16) (r : RequestAnswer) : (s.setRequestAnswer d r).pending = s.pending := rfl
@[simp] theorem setRequestAnswer_pins (s : State) (d : Fin 16) (r : RequestAnswer) : (s.setRequestAnswer d r).pins = s.pins := rfl
@[simp] theorem setRequestAnswer_port (s : State) (d : Fin 16) (r : RequestAnswer) : (s.setRequestAnswer d r).port = s.port := rfl
@[simp] theorem setRequestAnswer_command (s : State) (d : Fin 16) (r : RequestAnswer) : (s.setRequestAnswer d r).command = s.command := rfl
@[simp] theorem setRequestAnswer_stations (s : State) (d : Fin 16) (r : RequestAnswer) : (s.setRequestAnswer d r).stations = s.stations := rfl
@[simp] theorem setRequestAnswer_sweep (s : State) (d : Fin 16) (r : RequestAnswer) : (s.setRequestAnswer d r).sweep = s.sweep := rfl
@[simp] theorem setRequestAnswer_engine (s : State) (d : Fin 16) (r : RequestAnswer) : (s.setRequestAnswer d r).engine = s.engine := rfl
@[simp] theorem setRequestAnswer_pool (s : State) (d : Fin 16) (r : RequestAnswer) : (s.setRequestAnswer d r).pool = s.pool := rfl
@[simp] theorem setRequestAnswer_events (s : State) (d : Fin 16) (r : RequestAnswer) : (s.setRequestAnswer d r).events = s.events := rfl
@[simp] theorem setRequestAnswer_arbiter (s : State) (d : Fin 16) (r : RequestAnswer) : (s.setRequestAnswer d r).arbiter = s.arbiter := rfl
@[simp] theorem setRequestAnswer_supervision (s : State) (d : Fin 16) (r : RequestAnswer) : (s.setRequestAnswer d r).supervision = s.supervision := rfl
@[simp] theorem setRequestAnswer_freeCount (s : State) (d : Fin 16) (r : RequestAnswer) : (s.setRequestAnswer d r).freeCount = s.freeCount := rfl

@[simp] theorem setSafeCall_pending (s : State) (x : Line) (c : SafeCallBuffer) : (s.setSafeCall x c).pending = s.pending := rfl
@[simp] theorem setSafeCall_pins (s : State) (x : Line) (c : SafeCallBuffer) : (s.setSafeCall x c).pins = s.pins := rfl
@[simp] theorem setSafeCall_port (s : State) (x : Line) (c : SafeCallBuffer) : (s.setSafeCall x c).port = s.port := rfl
@[simp] theorem setSafeCall_command (s : State) (x : Line) (c : SafeCallBuffer) : (s.setSafeCall x c).command = s.command := rfl
@[simp] theorem setSafeCall_stations (s : State) (x : Line) (c : SafeCallBuffer) : (s.setSafeCall x c).stations = s.stations := rfl
@[simp] theorem setSafeCall_sweep (s : State) (x : Line) (c : SafeCallBuffer) : (s.setSafeCall x c).sweep = s.sweep := rfl
@[simp] theorem setSafeCall_engine (s : State) (x : Line) (c : SafeCallBuffer) : (s.setSafeCall x c).engine = s.engine := rfl
@[simp] theorem setSafeCall_pool (s : State) (x : Line) (c : SafeCallBuffer) : (s.setSafeCall x c).pool = s.pool := rfl
@[simp] theorem setSafeCall_events (s : State) (x : Line) (c : SafeCallBuffer) : (s.setSafeCall x c).events = s.events := rfl
@[simp] theorem setSafeCall_arbiter (s : State) (x : Line) (c : SafeCallBuffer) : (s.setSafeCall x c).arbiter = s.arbiter := rfl
@[simp] theorem setSafeCall_supervision (s : State) (x : Line) (c : SafeCallBuffer) : (s.setSafeCall x c).supervision = s.supervision := rfl
@[simp] theorem setSafeCall_freeCount (s : State) (x : Line) (c : SafeCallBuffer) : (s.setSafeCall x c).freeCount = s.freeCount := rfl

@[simp] theorem setBuild_pending (s : State) (x : Line) (b : BuildArea) : (s.setBuild x b).pending = s.pending := rfl
@[simp] theorem setBuild_pins (s : State) (x : Line) (b : BuildArea) : (s.setBuild x b).pins = s.pins := rfl
@[simp] theorem setBuild_port (s : State) (x : Line) (b : BuildArea) : (s.setBuild x b).port = s.port := rfl
@[simp] theorem setBuild_command (s : State) (x : Line) (b : BuildArea) : (s.setBuild x b).command = s.command := rfl
@[simp] theorem setBuild_stations (s : State) (x : Line) (b : BuildArea) : (s.setBuild x b).stations = s.stations := rfl
@[simp] theorem setBuild_sweep (s : State) (x : Line) (b : BuildArea) : (s.setBuild x b).sweep = s.sweep := rfl
@[simp] theorem setBuild_engine (s : State) (x : Line) (b : BuildArea) : (s.setBuild x b).engine = s.engine := rfl
@[simp] theorem setBuild_pool (s : State) (x : Line) (b : BuildArea) : (s.setBuild x b).pool = s.pool := rfl
@[simp] theorem setBuild_events (s : State) (x : Line) (b : BuildArea) : (s.setBuild x b).events = s.events := rfl
@[simp] theorem setBuild_arbiter (s : State) (x : Line) (b : BuildArea) : (s.setBuild x b).arbiter = s.arbiter := rfl
@[simp] theorem setBuild_supervision (s : State) (x : Line) (b : BuildArea) : (s.setBuild x b).supervision = s.supervision := rfl
@[simp] theorem setBuild_freeCount (s : State) (x : Line) (b : BuildArea) : (s.setBuild x b).freeCount = s.freeCount := rfl

@[simp] theorem setFifo_pending (s : State) (x : Line) (u : Urgency) (q : List (Fin 16)) : (s.setFifo x u q).pending = s.pending := by cases u <;> rfl
@[simp] theorem setFifo_pins (s : State) (x : Line) (u : Urgency) (q : List (Fin 16)) : (s.setFifo x u q).pins = s.pins := by cases u <;> rfl
@[simp] theorem setFifo_port (s : State) (x : Line) (u : Urgency) (q : List (Fin 16)) : (s.setFifo x u q).port = s.port := by cases u <;> rfl
@[simp] theorem setFifo_command (s : State) (x : Line) (u : Urgency) (q : List (Fin 16)) : (s.setFifo x u q).command = s.command := by cases u <;> rfl
@[simp] theorem setFifo_stations (s : State) (x : Line) (u : Urgency) (q : List (Fin 16)) : (s.setFifo x u q).stations = s.stations := by cases u <;> rfl
@[simp] theorem setFifo_store (s : State) (x : Line) (u : Urgency) (q : List (Fin 16)) : (s.setFifo x u q).store = s.store := by cases u <;> rfl
@[simp] theorem setFifo_sweep (s : State) (x : Line) (u : Urgency) (q : List (Fin 16)) : (s.setFifo x u q).sweep = s.sweep := by cases u <;> rfl
@[simp] theorem setFifo_engine (s : State) (x : Line) (u : Urgency) (q : List (Fin 16)) : (s.setFifo x u q).engine = s.engine := by cases u <;> rfl
@[simp] theorem setFifo_events (s : State) (x : Line) (u : Urgency) (q : List (Fin 16)) : (s.setFifo x u q).events = s.events := by cases u <;> rfl
@[simp] theorem setFifo_arbiter (s : State) (x : Line) (u : Urgency) (q : List (Fin 16)) : (s.setFifo x u q).arbiter = s.arbiter := by cases u <;> rfl
@[simp] theorem setFifo_supervision (s : State) (x : Line) (u : Urgency) (q : List (Fin 16)) : (s.setFifo x u q).supervision = s.supervision := by cases u <;> rfl
@[simp] theorem setFifo_freeCount (s : State) (x : Line) (u : Urgency) (q : List (Fin 16)) : (s.setFifo x u q).freeCount = s.freeCount := by cases u <;> rfl

@[simp] theorem setRx_pending (s : State) (x : Line) (l : PinLevel) : (s.setRx x l).pending = s.pending := rfl
@[simp] theorem setRx_port (s : State) (x : Line) (l : PinLevel) : (s.setRx x l).port = s.port := rfl
@[simp] theorem setRx_command (s : State) (x : Line) (l : PinLevel) : (s.setRx x l).command = s.command := rfl
@[simp] theorem setRx_stations (s : State) (x : Line) (l : PinLevel) : (s.setRx x l).stations = s.stations := rfl
@[simp] theorem setRx_store (s : State) (x : Line) (l : PinLevel) : (s.setRx x l).store = s.store := rfl
@[simp] theorem setRx_sweep (s : State) (x : Line) (l : PinLevel) : (s.setRx x l).sweep = s.sweep := rfl
@[simp] theorem setRx_engine (s : State) (x : Line) (l : PinLevel) : (s.setRx x l).engine = s.engine := rfl
@[simp] theorem setRx_pool (s : State) (x : Line) (l : PinLevel) : (s.setRx x l).pool = s.pool := rfl
@[simp] theorem setRx_events (s : State) (x : Line) (l : PinLevel) : (s.setRx x l).events = s.events := rfl
@[simp] theorem setRx_arbiter (s : State) (x : Line) (l : PinLevel) : (s.setRx x l).arbiter = s.arbiter := rfl
@[simp] theorem setRx_supervision (s : State) (x : Line) (l : PinLevel) : (s.setRx x l).supervision = s.supervision := rfl
@[simp] theorem setRx_freeCount (s : State) (x : Line) (l : PinLevel) : (s.setRx x l).freeCount = s.freeCount := rfl

@[simp] theorem settleIrq_pending (s : State) : (settleIrq s).pending = s.pending := rfl
@[simp] theorem settleIrq_pins (s : State) : (settleIrq s).pins = s.pins := rfl
@[simp] theorem settleIrq_port (s : State) : (settleIrq s).port = s.port := rfl
@[simp] theorem settleIrq_command (s : State) : (settleIrq s).command = s.command := rfl
@[simp] theorem settleIrq_stations (s : State) : (settleIrq s).stations = s.stations := rfl
@[simp] theorem settleIrq_store (s : State) : (settleIrq s).store = s.store := rfl
@[simp] theorem settleIrq_sweep (s : State) : (settleIrq s).sweep = s.sweep := rfl
@[simp] theorem settleIrq_engine (s : State) : (settleIrq s).engine = s.engine := rfl
@[simp] theorem settleIrq_pool (s : State) : (settleIrq s).pool = s.pool := rfl
@[simp] theorem settleIrq_events (s : State) : (settleIrq s).events = s.events := rfl
@[simp] theorem settleIrq_supervision (s : State) : (settleIrq s).supervision = s.supervision := rfl
@[simp] theorem settleIrq_freeCount (s : State) : (settleIrq s).freeCount = s.freeCount := rfl

@[simp] theorem setArbiter_pending (s : State) (a : Arbiter) : (setArbiter s a).pending = s.pending := rfl
@[simp] theorem setArbiter_pins (s : State) (a : Arbiter) : (setArbiter s a).pins = s.pins := rfl
@[simp] theorem setArbiter_port (s : State) (a : Arbiter) : (setArbiter s a).port = s.port := rfl
@[simp] theorem setArbiter_command (s : State) (a : Arbiter) : (setArbiter s a).command = s.command := rfl
@[simp] theorem setArbiter_stations (s : State) (a : Arbiter) : (setArbiter s a).stations = s.stations := rfl
@[simp] theorem setArbiter_store (s : State) (a : Arbiter) : (setArbiter s a).store = s.store := rfl
@[simp] theorem setArbiter_sweep (s : State) (a : Arbiter) : (setArbiter s a).sweep = s.sweep := rfl
@[simp] theorem setArbiter_engine (s : State) (a : Arbiter) : (setArbiter s a).engine = s.engine := rfl
@[simp] theorem setArbiter_pool (s : State) (a : Arbiter) : (setArbiter s a).pool = s.pool := rfl
@[simp] theorem setArbiter_events (s : State) (a : Arbiter) : (setArbiter s a).events = s.events := rfl
@[simp] theorem setArbiter_supervision (s : State) (a : Arbiter) : (setArbiter s a).supervision = s.supervision := rfl
@[simp] theorem setArbiter_freeCount (s : State) (a : Arbiter) : (setArbiter s a).freeCount = s.freeCount := rfl

@[simp] theorem setPending_pending (s : State) (src : Source) : (setPending src s).pending = s.pending := rfl
@[simp] theorem setPending_pins (s : State) (src : Source) : (setPending src s).pins = s.pins := rfl
@[simp] theorem setPending_port (s : State) (src : Source) : (setPending src s).port = s.port := rfl
@[simp] theorem setPending_command (s : State) (src : Source) : (setPending src s).command = s.command := rfl
@[simp] theorem setPending_stations (s : State) (src : Source) : (setPending src s).stations = s.stations := rfl
@[simp] theorem setPending_store (s : State) (src : Source) : (setPending src s).store = s.store := rfl
@[simp] theorem setPending_sweep (s : State) (src : Source) : (setPending src s).sweep = s.sweep := rfl
@[simp] theorem setPending_engine (s : State) (src : Source) : (setPending src s).engine = s.engine := rfl
@[simp] theorem setPending_pool (s : State) (src : Source) : (setPending src s).pool = s.pool := rfl
@[simp] theorem setPending_events (s : State) (src : Source) : (setPending src s).events = s.events := rfl
@[simp] theorem setPending_supervision (s : State) (src : Source) : (setPending src s).supervision = s.supervision := rfl
@[simp] theorem setPending_freeCount (s : State) (src : Source) : (setPending src s).freeCount = s.freeCount := rfl

@[simp] theorem post_pending (s : State) (r : EventRecord) : (post r s).pending = s.pending := rfl
@[simp] theorem post_pins (s : State) (r : EventRecord) : (post r s).pins = s.pins := rfl
@[simp] theorem post_port (s : State) (r : EventRecord) : (post r s).port = s.port := rfl
@[simp] theorem post_command (s : State) (r : EventRecord) : (post r s).command = s.command := rfl
@[simp] theorem post_stations (s : State) (r : EventRecord) : (post r s).stations = s.stations := rfl
@[simp] theorem post_store (s : State) (r : EventRecord) : (post r s).store = s.store := rfl
@[simp] theorem post_sweep (s : State) (r : EventRecord) : (post r s).sweep = s.sweep := rfl
@[simp] theorem post_engine (s : State) (r : EventRecord) : (post r s).engine = s.engine := rfl
@[simp] theorem post_pool (s : State) (r : EventRecord) : (post r s).pool = s.pool := rfl
@[simp] theorem post_supervision (s : State) (r : EventRecord) : (post r s).supervision = s.supervision := rfl
@[simp] theorem post_freeCount (s : State) (r : EventRecord) : (post r s).freeCount = s.freeCount := rfl

/-! ### Accessors an update leaves -/

@[simp] theorem modSweep_engineAt (s : State) (x : Line) (f : SweepController → SweepController) (y : Line) :
    (s.modSweep x f).engineAt y = s.engineAt y := rfl
@[simp] theorem setStation_engineAt (s : State) (i : Fin 32) (r : Station) (y : Line) :
    (s.setStation i r).engineAt y = s.engineAt y := rfl
@[simp] theorem setCallPair_engineAt (s : State) (i : Fin 32) (p : CallPair) (y : Line) :
    (s.setCallPair i p).engineAt y = s.engineAt y := rfl
@[simp] theorem setAnswerPair_engineAt (s : State) (i : Fin 32) (p : AnswerPair) (y : Line) :
    (s.setAnswerPair i p).engineAt y = s.engineAt y := rfl
@[simp] theorem setDescriptor_engineAt (s : State) (d : Fin 16) (r : Descriptor) (y : Line) :
    (s.setDescriptor d r).engineAt y = s.engineAt y := rfl
@[simp] theorem setRequestCall_engineAt (s : State) (d : Fin 16) (c : CallBuffer) (y : Line) :
    (s.setRequestCall d c).engineAt y = s.engineAt y := rfl
@[simp] theorem setRequestAnswer_engineAt (s : State) (d : Fin 16) (r : RequestAnswer) (y : Line) :
    (s.setRequestAnswer d r).engineAt y = s.engineAt y := rfl
@[simp] theorem setSafeCall_engineAt (s : State) (x : Line) (c : SafeCallBuffer) (y : Line) :
    (s.setSafeCall x c).engineAt y = s.engineAt y := rfl
@[simp] theorem setBuild_engineAt (s : State) (x : Line) (b : BuildArea) (y : Line) :
    (s.setBuild x b).engineAt y = s.engineAt y := rfl
@[simp] theorem setFifo_engineAt (s : State) (x : Line) (u : Urgency) (q : List (Fin 16)) (y : Line) :
    (s.setFifo x u q).engineAt y = s.engineAt y := by cases u <;> rfl
@[simp] theorem setRx_engineAt (s : State) (x : Line) (l : PinLevel) (y : Line) :
    (s.setRx x l).engineAt y = s.engineAt y := rfl
@[simp] theorem settleIrq_engineAt (s : State) (y : Line) :
    (settleIrq s).engineAt y = s.engineAt y := rfl
@[simp] theorem setArbiter_engineAt (s : State) (a : Arbiter) (y : Line) :
    (setArbiter s a).engineAt y = s.engineAt y := rfl
@[simp] theorem setPending_engineAt (s : State) (src : Source) (y : Line) :
    (setPending src s).engineAt y = s.engineAt y := rfl
@[simp] theorem post_engineAt (s : State) (r : EventRecord) (y : Line) :
    (post r s).engineAt y = s.engineAt y := rfl

@[simp] theorem modEngine_sweepAt (s : State) (x : Line) (f : LineEngine → LineEngine) (y : Line) :
    (s.modEngine x f).sweepAt y = s.sweepAt y := rfl
@[simp] theorem setStation_sweepAt (s : State) (i : Fin 32) (r : Station) (y : Line) :
    (s.setStation i r).sweepAt y = s.sweepAt y := rfl
@[simp] theorem setCallPair_sweepAt (s : State) (i : Fin 32) (p : CallPair) (y : Line) :
    (s.setCallPair i p).sweepAt y = s.sweepAt y := rfl
@[simp] theorem setAnswerPair_sweepAt (s : State) (i : Fin 32) (p : AnswerPair) (y : Line) :
    (s.setAnswerPair i p).sweepAt y = s.sweepAt y := rfl
@[simp] theorem setDescriptor_sweepAt (s : State) (d : Fin 16) (r : Descriptor) (y : Line) :
    (s.setDescriptor d r).sweepAt y = s.sweepAt y := rfl
@[simp] theorem setRequestCall_sweepAt (s : State) (d : Fin 16) (c : CallBuffer) (y : Line) :
    (s.setRequestCall d c).sweepAt y = s.sweepAt y := rfl
@[simp] theorem setRequestAnswer_sweepAt (s : State) (d : Fin 16) (r : RequestAnswer) (y : Line) :
    (s.setRequestAnswer d r).sweepAt y = s.sweepAt y := rfl
@[simp] theorem setSafeCall_sweepAt (s : State) (x : Line) (c : SafeCallBuffer) (y : Line) :
    (s.setSafeCall x c).sweepAt y = s.sweepAt y := rfl
@[simp] theorem setBuild_sweepAt (s : State) (x : Line) (b : BuildArea) (y : Line) :
    (s.setBuild x b).sweepAt y = s.sweepAt y := rfl
@[simp] theorem setFifo_sweepAt (s : State) (x : Line) (u : Urgency) (q : List (Fin 16)) (y : Line) :
    (s.setFifo x u q).sweepAt y = s.sweepAt y := by cases u <;> rfl
@[simp] theorem setRx_sweepAt (s : State) (x : Line) (l : PinLevel) (y : Line) :
    (s.setRx x l).sweepAt y = s.sweepAt y := rfl
@[simp] theorem settleIrq_sweepAt (s : State) (y : Line) :
    (settleIrq s).sweepAt y = s.sweepAt y := rfl
@[simp] theorem setArbiter_sweepAt (s : State) (a : Arbiter) (y : Line) :
    (setArbiter s a).sweepAt y = s.sweepAt y := rfl
@[simp] theorem setPending_sweepAt (s : State) (src : Source) (y : Line) :
    (setPending src s).sweepAt y = s.sweepAt y := rfl
@[simp] theorem post_sweepAt (s : State) (r : EventRecord) (y : Line) :
    (post r s).sweepAt y = s.sweepAt y := rfl

@[simp] theorem modEngine_stationAt (s : State) (x : Line) (f : LineEngine → LineEngine) (j : Fin 32) :
    (s.modEngine x f).stationAt j = s.stationAt j := rfl
@[simp] theorem modSweep_stationAt (s : State) (x : Line) (f : SweepController → SweepController) (j : Fin 32) :
    (s.modSweep x f).stationAt j = s.stationAt j := rfl
@[simp] theorem setCallPair_stationAt (s : State) (i : Fin 32) (p : CallPair) (j : Fin 32) :
    (s.setCallPair i p).stationAt j = s.stationAt j := rfl
@[simp] theorem setAnswerPair_stationAt (s : State) (i : Fin 32) (p : AnswerPair) (j : Fin 32) :
    (s.setAnswerPair i p).stationAt j = s.stationAt j := rfl
@[simp] theorem setDescriptor_stationAt (s : State) (d : Fin 16) (r : Descriptor) (j : Fin 32) :
    (s.setDescriptor d r).stationAt j = s.stationAt j := rfl
@[simp] theorem setRequestCall_stationAt (s : State) (d : Fin 16) (c : CallBuffer) (j : Fin 32) :
    (s.setRequestCall d c).stationAt j = s.stationAt j := rfl
@[simp] theorem setRequestAnswer_stationAt (s : State) (d : Fin 16) (r : RequestAnswer) (j : Fin 32) :
    (s.setRequestAnswer d r).stationAt j = s.stationAt j := rfl
@[simp] theorem setSafeCall_stationAt (s : State) (x : Line) (c : SafeCallBuffer) (j : Fin 32) :
    (s.setSafeCall x c).stationAt j = s.stationAt j := rfl
@[simp] theorem setBuild_stationAt (s : State) (x : Line) (b : BuildArea) (j : Fin 32) :
    (s.setBuild x b).stationAt j = s.stationAt j := rfl
@[simp] theorem setFifo_stationAt (s : State) (x : Line) (u : Urgency) (q : List (Fin 16)) (j : Fin 32) :
    (s.setFifo x u q).stationAt j = s.stationAt j := by cases u <;> rfl
@[simp] theorem setRx_stationAt (s : State) (x : Line) (l : PinLevel) (j : Fin 32) :
    (s.setRx x l).stationAt j = s.stationAt j := rfl
@[simp] theorem settleIrq_stationAt (s : State) (j : Fin 32) :
    (settleIrq s).stationAt j = s.stationAt j := rfl
@[simp] theorem setArbiter_stationAt (s : State) (a : Arbiter) (j : Fin 32) :
    (setArbiter s a).stationAt j = s.stationAt j := rfl
@[simp] theorem setPending_stationAt (s : State) (src : Source) (j : Fin 32) :
    (setPending src s).stationAt j = s.stationAt j := rfl
@[simp] theorem post_stationAt (s : State) (r : EventRecord) (j : Fin 32) :
    (post r s).stationAt j = s.stationAt j := rfl

@[simp] theorem modEngine_callPairAt (s : State) (x : Line) (f : LineEngine → LineEngine) (j : Fin 32) :
    (s.modEngine x f).callPairAt j = s.callPairAt j := rfl
@[simp] theorem modSweep_callPairAt (s : State) (x : Line) (f : SweepController → SweepController) (j : Fin 32) :
    (s.modSweep x f).callPairAt j = s.callPairAt j := rfl
@[simp] theorem setStation_callPairAt (s : State) (i : Fin 32) (r : Station) (j : Fin 32) :
    (s.setStation i r).callPairAt j = s.callPairAt j := rfl
@[simp] theorem setAnswerPair_callPairAt (s : State) (i : Fin 32) (p : AnswerPair) (j : Fin 32) :
    (s.setAnswerPair i p).callPairAt j = s.callPairAt j := rfl
@[simp] theorem setDescriptor_callPairAt (s : State) (d : Fin 16) (r : Descriptor) (j : Fin 32) :
    (s.setDescriptor d r).callPairAt j = s.callPairAt j := rfl
@[simp] theorem setRequestCall_callPairAt (s : State) (d : Fin 16) (c : CallBuffer) (j : Fin 32) :
    (s.setRequestCall d c).callPairAt j = s.callPairAt j := rfl
@[simp] theorem setRequestAnswer_callPairAt (s : State) (d : Fin 16) (r : RequestAnswer) (j : Fin 32) :
    (s.setRequestAnswer d r).callPairAt j = s.callPairAt j := rfl
@[simp] theorem setSafeCall_callPairAt (s : State) (x : Line) (c : SafeCallBuffer) (j : Fin 32) :
    (s.setSafeCall x c).callPairAt j = s.callPairAt j := rfl
@[simp] theorem setBuild_callPairAt (s : State) (x : Line) (b : BuildArea) (j : Fin 32) :
    (s.setBuild x b).callPairAt j = s.callPairAt j := rfl
@[simp] theorem setFifo_callPairAt (s : State) (x : Line) (u : Urgency) (q : List (Fin 16)) (j : Fin 32) :
    (s.setFifo x u q).callPairAt j = s.callPairAt j := by cases u <;> rfl
@[simp] theorem setRx_callPairAt (s : State) (x : Line) (l : PinLevel) (j : Fin 32) :
    (s.setRx x l).callPairAt j = s.callPairAt j := rfl
@[simp] theorem settleIrq_callPairAt (s : State) (j : Fin 32) :
    (settleIrq s).callPairAt j = s.callPairAt j := rfl
@[simp] theorem setArbiter_callPairAt (s : State) (a : Arbiter) (j : Fin 32) :
    (setArbiter s a).callPairAt j = s.callPairAt j := rfl
@[simp] theorem setPending_callPairAt (s : State) (src : Source) (j : Fin 32) :
    (setPending src s).callPairAt j = s.callPairAt j := rfl
@[simp] theorem post_callPairAt (s : State) (r : EventRecord) (j : Fin 32) :
    (post r s).callPairAt j = s.callPairAt j := rfl

@[simp] theorem modEngine_answerPairAt (s : State) (x : Line) (f : LineEngine → LineEngine) (j : Fin 32) :
    (s.modEngine x f).answerPairAt j = s.answerPairAt j := rfl
@[simp] theorem modSweep_answerPairAt (s : State) (x : Line) (f : SweepController → SweepController) (j : Fin 32) :
    (s.modSweep x f).answerPairAt j = s.answerPairAt j := rfl
@[simp] theorem setStation_answerPairAt (s : State) (i : Fin 32) (r : Station) (j : Fin 32) :
    (s.setStation i r).answerPairAt j = s.answerPairAt j := rfl
@[simp] theorem setCallPair_answerPairAt (s : State) (i : Fin 32) (p : CallPair) (j : Fin 32) :
    (s.setCallPair i p).answerPairAt j = s.answerPairAt j := rfl
@[simp] theorem setDescriptor_answerPairAt (s : State) (d : Fin 16) (r : Descriptor) (j : Fin 32) :
    (s.setDescriptor d r).answerPairAt j = s.answerPairAt j := rfl
@[simp] theorem setRequestCall_answerPairAt (s : State) (d : Fin 16) (c : CallBuffer) (j : Fin 32) :
    (s.setRequestCall d c).answerPairAt j = s.answerPairAt j := rfl
@[simp] theorem setRequestAnswer_answerPairAt (s : State) (d : Fin 16) (r : RequestAnswer) (j : Fin 32) :
    (s.setRequestAnswer d r).answerPairAt j = s.answerPairAt j := rfl
@[simp] theorem setSafeCall_answerPairAt (s : State) (x : Line) (c : SafeCallBuffer) (j : Fin 32) :
    (s.setSafeCall x c).answerPairAt j = s.answerPairAt j := rfl
@[simp] theorem setBuild_answerPairAt (s : State) (x : Line) (b : BuildArea) (j : Fin 32) :
    (s.setBuild x b).answerPairAt j = s.answerPairAt j := rfl
@[simp] theorem setFifo_answerPairAt (s : State) (x : Line) (u : Urgency) (q : List (Fin 16)) (j : Fin 32) :
    (s.setFifo x u q).answerPairAt j = s.answerPairAt j := by cases u <;> rfl
@[simp] theorem setRx_answerPairAt (s : State) (x : Line) (l : PinLevel) (j : Fin 32) :
    (s.setRx x l).answerPairAt j = s.answerPairAt j := rfl
@[simp] theorem settleIrq_answerPairAt (s : State) (j : Fin 32) :
    (settleIrq s).answerPairAt j = s.answerPairAt j := rfl
@[simp] theorem setArbiter_answerPairAt (s : State) (a : Arbiter) (j : Fin 32) :
    (setArbiter s a).answerPairAt j = s.answerPairAt j := rfl
@[simp] theorem setPending_answerPairAt (s : State) (src : Source) (j : Fin 32) :
    (setPending src s).answerPairAt j = s.answerPairAt j := rfl
@[simp] theorem post_answerPairAt (s : State) (r : EventRecord) (j : Fin 32) :
    (post r s).answerPairAt j = s.answerPairAt j := rfl

@[simp] theorem modEngine_requestCallAt (s : State) (x : Line) (f : LineEngine → LineEngine) (j : Fin 16) :
    (s.modEngine x f).requestCallAt j = s.requestCallAt j := rfl
@[simp] theorem modSweep_requestCallAt (s : State) (x : Line) (f : SweepController → SweepController) (j : Fin 16) :
    (s.modSweep x f).requestCallAt j = s.requestCallAt j := rfl
@[simp] theorem setStation_requestCallAt (s : State) (i : Fin 32) (r : Station) (j : Fin 16) :
    (s.setStation i r).requestCallAt j = s.requestCallAt j := rfl
@[simp] theorem setCallPair_requestCallAt (s : State) (i : Fin 32) (p : CallPair) (j : Fin 16) :
    (s.setCallPair i p).requestCallAt j = s.requestCallAt j := rfl
@[simp] theorem setAnswerPair_requestCallAt (s : State) (i : Fin 32) (p : AnswerPair) (j : Fin 16) :
    (s.setAnswerPair i p).requestCallAt j = s.requestCallAt j := rfl
@[simp] theorem setDescriptor_requestCallAt (s : State) (d : Fin 16) (r : Descriptor) (j : Fin 16) :
    (s.setDescriptor d r).requestCallAt j = s.requestCallAt j := rfl
@[simp] theorem setRequestAnswer_requestCallAt (s : State) (d : Fin 16) (r : RequestAnswer) (j : Fin 16) :
    (s.setRequestAnswer d r).requestCallAt j = s.requestCallAt j := rfl
@[simp] theorem setSafeCall_requestCallAt (s : State) (x : Line) (c : SafeCallBuffer) (j : Fin 16) :
    (s.setSafeCall x c).requestCallAt j = s.requestCallAt j := rfl
@[simp] theorem setBuild_requestCallAt (s : State) (x : Line) (b : BuildArea) (j : Fin 16) :
    (s.setBuild x b).requestCallAt j = s.requestCallAt j := rfl
@[simp] theorem setFifo_requestCallAt (s : State) (x : Line) (u : Urgency) (q : List (Fin 16)) (j : Fin 16) :
    (s.setFifo x u q).requestCallAt j = s.requestCallAt j := by cases u <;> rfl
@[simp] theorem setRx_requestCallAt (s : State) (x : Line) (l : PinLevel) (j : Fin 16) :
    (s.setRx x l).requestCallAt j = s.requestCallAt j := rfl
@[simp] theorem settleIrq_requestCallAt (s : State) (j : Fin 16) :
    (settleIrq s).requestCallAt j = s.requestCallAt j := rfl
@[simp] theorem setArbiter_requestCallAt (s : State) (a : Arbiter) (j : Fin 16) :
    (setArbiter s a).requestCallAt j = s.requestCallAt j := rfl
@[simp] theorem setPending_requestCallAt (s : State) (src : Source) (j : Fin 16) :
    (setPending src s).requestCallAt j = s.requestCallAt j := rfl
@[simp] theorem post_requestCallAt (s : State) (r : EventRecord) (j : Fin 16) :
    (post r s).requestCallAt j = s.requestCallAt j := rfl

@[simp] theorem modEngine_requestAnswerAt (s : State) (x : Line) (f : LineEngine → LineEngine) (j : Fin 16) :
    (s.modEngine x f).requestAnswerAt j = s.requestAnswerAt j := rfl
@[simp] theorem modSweep_requestAnswerAt (s : State) (x : Line) (f : SweepController → SweepController) (j : Fin 16) :
    (s.modSweep x f).requestAnswerAt j = s.requestAnswerAt j := rfl
@[simp] theorem setStation_requestAnswerAt (s : State) (i : Fin 32) (r : Station) (j : Fin 16) :
    (s.setStation i r).requestAnswerAt j = s.requestAnswerAt j := rfl
@[simp] theorem setCallPair_requestAnswerAt (s : State) (i : Fin 32) (p : CallPair) (j : Fin 16) :
    (s.setCallPair i p).requestAnswerAt j = s.requestAnswerAt j := rfl
@[simp] theorem setAnswerPair_requestAnswerAt (s : State) (i : Fin 32) (p : AnswerPair) (j : Fin 16) :
    (s.setAnswerPair i p).requestAnswerAt j = s.requestAnswerAt j := rfl
@[simp] theorem setDescriptor_requestAnswerAt (s : State) (d : Fin 16) (r : Descriptor) (j : Fin 16) :
    (s.setDescriptor d r).requestAnswerAt j = s.requestAnswerAt j := rfl
@[simp] theorem setRequestCall_requestAnswerAt (s : State) (d : Fin 16) (c : CallBuffer) (j : Fin 16) :
    (s.setRequestCall d c).requestAnswerAt j = s.requestAnswerAt j := rfl
@[simp] theorem setSafeCall_requestAnswerAt (s : State) (x : Line) (c : SafeCallBuffer) (j : Fin 16) :
    (s.setSafeCall x c).requestAnswerAt j = s.requestAnswerAt j := rfl
@[simp] theorem setBuild_requestAnswerAt (s : State) (x : Line) (b : BuildArea) (j : Fin 16) :
    (s.setBuild x b).requestAnswerAt j = s.requestAnswerAt j := rfl
@[simp] theorem setFifo_requestAnswerAt (s : State) (x : Line) (u : Urgency) (q : List (Fin 16)) (j : Fin 16) :
    (s.setFifo x u q).requestAnswerAt j = s.requestAnswerAt j := by cases u <;> rfl
@[simp] theorem setRx_requestAnswerAt (s : State) (x : Line) (l : PinLevel) (j : Fin 16) :
    (s.setRx x l).requestAnswerAt j = s.requestAnswerAt j := rfl
@[simp] theorem settleIrq_requestAnswerAt (s : State) (j : Fin 16) :
    (settleIrq s).requestAnswerAt j = s.requestAnswerAt j := rfl
@[simp] theorem setArbiter_requestAnswerAt (s : State) (a : Arbiter) (j : Fin 16) :
    (setArbiter s a).requestAnswerAt j = s.requestAnswerAt j := rfl
@[simp] theorem setPending_requestAnswerAt (s : State) (src : Source) (j : Fin 16) :
    (setPending src s).requestAnswerAt j = s.requestAnswerAt j := rfl
@[simp] theorem post_requestAnswerAt (s : State) (r : EventRecord) (j : Fin 16) :
    (post r s).requestAnswerAt j = s.requestAnswerAt j := rfl

@[simp] theorem modEngine_descriptorAt (s : State) (x : Line) (f : LineEngine → LineEngine) (j : Fin 16) :
    (s.modEngine x f).descriptorAt j = s.descriptorAt j := rfl
@[simp] theorem modSweep_descriptorAt (s : State) (x : Line) (f : SweepController → SweepController) (j : Fin 16) :
    (s.modSweep x f).descriptorAt j = s.descriptorAt j := rfl
@[simp] theorem setStation_descriptorAt (s : State) (i : Fin 32) (r : Station) (j : Fin 16) :
    (s.setStation i r).descriptorAt j = s.descriptorAt j := rfl
@[simp] theorem setCallPair_descriptorAt (s : State) (i : Fin 32) (p : CallPair) (j : Fin 16) :
    (s.setCallPair i p).descriptorAt j = s.descriptorAt j := rfl
@[simp] theorem setAnswerPair_descriptorAt (s : State) (i : Fin 32) (p : AnswerPair) (j : Fin 16) :
    (s.setAnswerPair i p).descriptorAt j = s.descriptorAt j := rfl
@[simp] theorem setRequestCall_descriptorAt (s : State) (d : Fin 16) (c : CallBuffer) (j : Fin 16) :
    (s.setRequestCall d c).descriptorAt j = s.descriptorAt j := rfl
@[simp] theorem setRequestAnswer_descriptorAt (s : State) (d : Fin 16) (r : RequestAnswer) (j : Fin 16) :
    (s.setRequestAnswer d r).descriptorAt j = s.descriptorAt j := rfl
@[simp] theorem setSafeCall_descriptorAt (s : State) (x : Line) (c : SafeCallBuffer) (j : Fin 16) :
    (s.setSafeCall x c).descriptorAt j = s.descriptorAt j := rfl
@[simp] theorem setBuild_descriptorAt (s : State) (x : Line) (b : BuildArea) (j : Fin 16) :
    (s.setBuild x b).descriptorAt j = s.descriptorAt j := rfl
@[simp] theorem setFifo_descriptorAt (s : State) (x : Line) (u : Urgency) (q : List (Fin 16)) (j : Fin 16) :
    (s.setFifo x u q).descriptorAt j = s.descriptorAt j := by cases u <;> rfl
@[simp] theorem setRx_descriptorAt (s : State) (x : Line) (l : PinLevel) (j : Fin 16) :
    (s.setRx x l).descriptorAt j = s.descriptorAt j := rfl
@[simp] theorem settleIrq_descriptorAt (s : State) (j : Fin 16) :
    (settleIrq s).descriptorAt j = s.descriptorAt j := rfl
@[simp] theorem setArbiter_descriptorAt (s : State) (a : Arbiter) (j : Fin 16) :
    (setArbiter s a).descriptorAt j = s.descriptorAt j := rfl
@[simp] theorem setPending_descriptorAt (s : State) (src : Source) (j : Fin 16) :
    (setPending src s).descriptorAt j = s.descriptorAt j := rfl
@[simp] theorem post_descriptorAt (s : State) (r : EventRecord) (j : Fin 16) :
    (post r s).descriptorAt j = s.descriptorAt j := rfl

@[simp] theorem modEngine_fifo (s : State) (x : Line) (f : LineEngine → LineEngine) (y : Line) (v : Urgency) :
    (s.modEngine x f).fifo y v = s.fifo y v := by cases v <;> rfl
@[simp] theorem modSweep_fifo (s : State) (x : Line) (f : SweepController → SweepController) (y : Line) (v : Urgency) :
    (s.modSweep x f).fifo y v = s.fifo y v := by cases v <;> rfl
@[simp] theorem setStation_fifo (s : State) (i : Fin 32) (r : Station) (y : Line) (v : Urgency) :
    (s.setStation i r).fifo y v = s.fifo y v := by cases v <;> rfl
@[simp] theorem setCallPair_fifo (s : State) (i : Fin 32) (p : CallPair) (y : Line) (v : Urgency) :
    (s.setCallPair i p).fifo y v = s.fifo y v := by cases v <;> rfl
@[simp] theorem setAnswerPair_fifo (s : State) (i : Fin 32) (p : AnswerPair) (y : Line) (v : Urgency) :
    (s.setAnswerPair i p).fifo y v = s.fifo y v := by cases v <;> rfl
@[simp] theorem setDescriptor_fifo (s : State) (d : Fin 16) (r : Descriptor) (y : Line) (v : Urgency) :
    (s.setDescriptor d r).fifo y v = s.fifo y v := by cases v <;> rfl
@[simp] theorem setRequestCall_fifo (s : State) (d : Fin 16) (c : CallBuffer) (y : Line) (v : Urgency) :
    (s.setRequestCall d c).fifo y v = s.fifo y v := by cases v <;> rfl
@[simp] theorem setRequestAnswer_fifo (s : State) (d : Fin 16) (r : RequestAnswer) (y : Line) (v : Urgency) :
    (s.setRequestAnswer d r).fifo y v = s.fifo y v := by cases v <;> rfl
@[simp] theorem setSafeCall_fifo (s : State) (x : Line) (c : SafeCallBuffer) (y : Line) (v : Urgency) :
    (s.setSafeCall x c).fifo y v = s.fifo y v := by cases v <;> rfl
@[simp] theorem setBuild_fifo (s : State) (x : Line) (b : BuildArea) (y : Line) (v : Urgency) :
    (s.setBuild x b).fifo y v = s.fifo y v := by cases v <;> rfl
@[simp] theorem setRx_fifo (s : State) (x : Line) (l : PinLevel) (y : Line) (v : Urgency) :
    (s.setRx x l).fifo y v = s.fifo y v := by cases v <;> rfl
@[simp] theorem settleIrq_fifo (s : State) (y : Line) (v : Urgency) :
    (settleIrq s).fifo y v = s.fifo y v := by cases v <;> rfl
@[simp] theorem setArbiter_fifo (s : State) (a : Arbiter) (y : Line) (v : Urgency) :
    (setArbiter s a).fifo y v = s.fifo y v := by cases v <;> rfl
@[simp] theorem setPending_fifo (s : State) (src : Source) (y : Line) (v : Urgency) :
    (setPending src s).fifo y v = s.fifo y v := by cases v <;> rfl
@[simp] theorem post_fifo (s : State) (r : EventRecord) (y : Line) (v : Urgency) :
    (post r s).fifo y v = s.fifo y v := by cases v <;> rfl

/-! ### What an update's own accessor reads after it -/

@[simp] theorem engineAt_modEngine_self (s : State) (x : Line) (f : LineEngine → LineEngine) :
    (s.modEngine x f).engineAt x = f (s.engineAt x) := by
  cases x <;> rfl

theorem engineAt_modEngine (s : State) (x y : Line) (f : LineEngine → LineEngine) :
    (s.modEngine x f).engineAt y = if y = x then f (s.engineAt x) else s.engineAt y := by
  cases x <;> cases y <;> rfl

@[simp] theorem sweepAt_modSweep_self (s : State) (x : Line) (f : SweepController → SweepController) :
    (s.modSweep x f).sweepAt x = f (s.sweepAt x) := by
  cases x <;> rfl

theorem sweepAt_modSweep (s : State) (x y : Line) (f : SweepController → SweepController) :
    (s.modSweep x f).sweepAt y = if y = x then f (s.sweepAt x) else s.sweepAt y := by
  cases x <;> cases y <;> rfl

theorem stationAt_setStation (s : State) (i j : Fin 32) (r : Station) :
    (s.setStation i r).stationAt j = if j = i then r else s.stationAt j := by
  simp only [State.stationAt, State.setStation, Fin.getElem_fin, Vector.getElem_set, Fin.ext_iff, eq_comm]

@[simp] theorem stationAt_setStation_self (s : State) (i : Fin 32) (r : Station) :
    (s.setStation i r).stationAt i = r := by
  simp [stationAt_setStation]

theorem descriptorAt_setDescriptor (s : State) (d j : Fin 16) (r : Descriptor) :
    (s.setDescriptor d r).descriptorAt j = if j = d then r else s.descriptorAt j := by
  simp only [State.descriptorAt, State.setDescriptor, Fin.getElem_fin, Vector.getElem_set, Fin.ext_iff, eq_comm]

@[simp] theorem descriptorAt_setDescriptor_self (s : State) (d : Fin 16) (r : Descriptor) :
    (s.setDescriptor d r).descriptorAt d = r := by
  simp [descriptorAt_setDescriptor]

theorem callPairAt_setCallPair (s : State) (i j : Fin 32) (p : CallPair) :
    (s.setCallPair i p).callPairAt j = if j = i then p else s.callPairAt j := by
  simp only [State.callPairAt, State.setCallPair, Fin.getElem_fin, Vector.getElem_set, Fin.ext_iff, eq_comm]

@[simp] theorem callPairAt_setCallPair_self (s : State) (i : Fin 32) (p : CallPair) :
    (s.setCallPair i p).callPairAt i = p := by
  simp [callPairAt_setCallPair]

theorem answerPairAt_setAnswerPair (s : State) (i j : Fin 32) (p : AnswerPair) :
    (s.setAnswerPair i p).answerPairAt j = if j = i then p else s.answerPairAt j := by
  simp only [State.answerPairAt, State.setAnswerPair, Fin.getElem_fin, Vector.getElem_set, Fin.ext_iff, eq_comm]

@[simp] theorem answerPairAt_setAnswerPair_self (s : State) (i : Fin 32) (p : AnswerPair) :
    (s.setAnswerPair i p).answerPairAt i = p := by
  simp [answerPairAt_setAnswerPair]

theorem requestAnswerAt_setRequestAnswer (s : State) (d j : Fin 16) (r : RequestAnswer) :
    (s.setRequestAnswer d r).requestAnswerAt j = if j = d then r else s.requestAnswerAt j := by
  simp only [State.requestAnswerAt, State.setRequestAnswer, Fin.getElem_fin, Vector.getElem_set, Fin.ext_iff, eq_comm]

@[simp] theorem requestAnswerAt_setRequestAnswer_self (s : State) (d : Fin 16) (r : RequestAnswer) :
    (s.setRequestAnswer d r).requestAnswerAt d = r := by
  simp [requestAnswerAt_setRequestAnswer]

theorem requestCallAt_setRequestCall (s : State) (d j : Fin 16) (c : CallBuffer) :
    (s.setRequestCall d c).requestCallAt j = if j = d then c else s.requestCallAt j := by
  simp only [State.requestCallAt, State.setRequestCall, Fin.getElem_fin, Vector.getElem_set, Fin.ext_iff, eq_comm]

@[simp] theorem requestCallAt_setRequestCall_self (s : State) (d : Fin 16) (c : CallBuffer) :
    (s.setRequestCall d c).requestCallAt d = c := by
  simp [requestCallAt_setRequestCall]

theorem fifo_setFifo (s : State) (x y : Line) (u v : Urgency) (q : List (Fin 16)) :
    (s.setFifo x u q).fifo y v = if y = x ∧ v = u then q else s.fifo y v := by
  cases x <;> cases y <;> cases u <;> cases v <;> rfl

@[simp] theorem fifo_setFifo_self (s : State) (x : Line) (u : Urgency) (q : List (Fin 16)) :
    (s.setFifo x u q).fifo x u = q := by
  simp [fifo_setFifo]

/-! ### The command port after a completion -/

@[simp] theorem finish_stations (c : Completion) : (finish c).stations = c.state.stations := rfl
@[simp] theorem finish_store (c : Completion) : (finish c).store = c.state.store := rfl
@[simp] theorem finish_sweep (c : Completion) : (finish c).sweep = c.state.sweep := rfl
@[simp] theorem finish_engine (c : Completion) : (finish c).engine = c.state.engine := rfl
@[simp] theorem finish_pool (c : Completion) : (finish c).pool = c.state.pool := rfl
@[simp] theorem finish_events (c : Completion) : (finish c).events = c.state.events := rfl
@[simp] theorem finish_supervision (c : Completion) : (finish c).supervision = c.state.supervision := rfl
@[simp] theorem finish_port (c : Completion) : (finish c).port = c.state.port := rfl
@[simp] theorem finish_pins (c : Completion) : (finish c).pins = c.state.pins := rfl
@[simp] theorem finish_pending (c : Completion) : (finish c).pending = c.state.pending := rfl
@[simp] theorem finish_freeCount (c : Completion) : (finish c).freeCount = c.state.freeCount := rfl

end Sys2Proof.Machine
end

