-- ==== Sys2Proof/Laws/Buffers.lean ====
section
/-! SUPPORT. The buffers of the Data Store: a byte written through the data port is read back where it was written, and
every other byte of the buffer stays (R89, R175, R190); the halves of the pairs (R90, R92, R97, R98). -/

namespace Sys2Proof.Machine

/-- A byte set is read at its position, and every other position keeps its byte. -/
theorem getElem?_setByte {n : Nat} (v : Vector Byte n) (k j : Nat) (b : Byte) :
    (setByte v k b).toList[j]? = if j = k ∧ k < n then some b else v.toList[j]? := by
  unfold setByte
  split
  · next h =>
    by_cases hj : k = j
    · subst hj
      simp [h]
    · simp [hj, Ne.symm hj]
  · next h => simp [h]

/-- A write through a call view lands below its size, in the length only up to 32 (R89, R190). -/
theorem callBufferBytes_writeByte (c : CallBuffer) (k j : Nat) (b : Byte) :
    (callBufferBytes (c.writeByte k b))[j]? =
      if j = k ∧ k < 33 ∧ (k = 0 → b.toNat ≤ 32) then some b else (callBufferBytes c)[j]? := by
  unfold callBufferBytes CallBuffer.writeByte
  by_cases hk : k = 0
  · subst hk
    by_cases hb : b.toNat ≤ 32
    · cases j with
      | zero => simp [hb, byteOf]
      | succ j => simp [hb]
    · simp [hb]
  · cases j with
    | zero => simp [hk, Ne.symm hk]
    | succ j =>
      have e : (j = k - 1 ∧ k - 1 < 32) ↔ (j + 1 = k ∧ k < 33) := by omega
      simp only [hk, if_false, List.getElem?_cons_succ, getElem?_setByte, e]
      simp

/-- A write through a safe-call view lands below its size, in the length only up to 32 (R89, R190). -/
theorem safeCallBytes_writeByte (c : SafeCallBuffer) (k j : Nat) (b : Byte) :
    (safeCallBytes (c.writeByte k b))[j]? =
      if j = k ∧ k < 34 ∧ (k = 1 → b.toNat ≤ 32) then some b else (safeCallBytes c)[j]? := by
  unfold safeCallBytes SafeCallBuffer.writeByte
  by_cases hk : k = 0
  · subst hk
    cases j with
    | zero => simp
    | succ j => simp
  · by_cases hk1 : k = 1
    · subst hk1
      by_cases hb : b.toNat ≤ 32
      · match j with
        | 0 => simp [hb, byteOf]
        | 1 => simp [hb, byteOf]
        | _ + 2 => simp [hb]
      · simp [hb]
    · match j with
      | 0 => simp [hk, hk1, Ne.symm hk]
      | 1 => simp [hk, hk1, Ne.symm hk1]
      | j + 2 =>
        have e : (j = k - 2 ∧ k - 2 < 32) ↔ (j + 1 + 1 = k ∧ k < 34) := by omega
        simp only [hk, hk1, if_false, List.getElem?_cons_succ, getElem?_setByte, e]
        simp

/-- A write through a build view lands below its size, its length with any value (R26, R175, R190). -/
theorem buildBytes_writeByte (a : BuildArea) (k j : Nat) (b : Byte) :
    (buildBytes (a.writeByte k b))[j]? = if j = k ∧ k < 145 then some b else (buildBytes a)[j]? := by
  unfold buildBytes BuildArea.writeByte
  by_cases hk : k = 0
  · subst hk
    cases j with
    | zero => simp
    | succ j => simp
  · cases j with
    | zero => simp [hk, Ne.symm hk]
    | succ j =>
      have e : (j = k - 1 ∧ k - 1 < 144) ↔ (j + 1 = k ∧ k < 145) := by omega
      simp only [hk, if_false, List.getElem?_cons_succ, getElem?_setByte, e]

@[simp] theorem CallPair.staged_withStaged (p : CallPair) (c : CallBuffer) : (p.withStaged c).staged = c := by
  cases p with
  | mk first second firstIsLive => cases firstIsLive <;> exact Eq.refl _

@[simp] theorem CallPair.live_withStaged (p : CallPair) (c : CallBuffer) : (p.withStaged c).live = p.live := by
  cases p with
  | mk first second firstIsLive => cases firstIsLive <;> exact Eq.refl _

@[simp] theorem CallPair.live_swap (p : CallPair) : p.swap.live = p.staged := by
  cases p with
  | mk first second firstIsLive => cases firstIsLive <;> exact Eq.refl _

@[simp] theorem AnswerPair.spare_withSpare (p : AnswerPair) (b : AnswerBuffer) : (p.withSpare b).spare = b := by
  cases p with
  | mk first second firstIsPublished => cases firstIsPublished <;> exact Eq.refl _

@[simp] theorem AnswerPair.published_withSpare (p : AnswerPair) (b : AnswerBuffer) :
    (p.withSpare b).published = p.published := by
  cases p with
  | mk first second firstIsPublished => cases firstIsPublished <;> exact Eq.refl _

/-- A publication: the spare half becomes the published one with the new sequence (R98, R100). -/
@[simp] theorem AnswerPair.published_publish (p : AnswerPair) (sequence : Word) :
    (p.publish sequence).published = { p.spare with sequence := sequence } := by
  cases p with
  | mk first second firstIsPublished => cases firstIsPublished <;> exact Eq.refl _

@[simp] theorem AnswerPair.spare_publish (p : AnswerPair) (sequence : Word) :
    (p.publish sequence).spare = p.published := by
  cases p with
  | mk first second firstIsPublished => cases firstIsPublished <;> exact Eq.refl _

end Sys2Proof.Machine
end

