-- ==== Sys2Proof/Laws/Reporting.lean ====
section
/-! SUPPORT. What the shared operations can do to the Event Queue, the Interrupt Arbiter and the command queue: they post
records and set pending flags, and nothing else. One lemma per operation; a law of the queue or of the arbiter that a
post and a pending flag keep is kept by all of them (`Reporting.keeps`). -/

namespace Sys2Proof.Machine

/-- `s'` comes from `s` by posting records, setting pending flags and changing anything but the command queue, the Event
Queue and the Interrupt Arbiter. -/
inductive Reporting : State → State → Prop
  | elsewhere {s s' : State} (hq : s'.pending = s.pending) (he : s'.events = s.events) (ha : s'.arbiter = s.arbiter) :
      Reporting s s'
  | post (r : EventRecord) (s : State) : Reporting s (post r s)
  | setPending (src : Source) (s : State) : Reporting s (setPending src s)
  | trans {s t u : State} (h : Reporting s t) (h' : Reporting t u) : Reporting s u

theorem Reporting.rfl {s : State} : Reporting s s := .elsewhere (Eq.refl _) (Eq.refl _) (Eq.refl _)

/-- The command queue is not touched. -/
theorem Reporting.pending {s t : State} (h : Reporting s t) : t.pending = s.pending := by
  induction h with
  | elsewhere hq _ _ => exact hq
  | post r s => exact post_pending s r
  | setPending src s => exact setPending_pending s src
  | trans _ _ ih ih' => exact ih'.trans ih

/-- A property of the Event Queue and the Arbiter that a post and a pending flag keep is kept. -/
theorem Reporting.keeps {P : EventQueue → Arbiter → Prop} {s t : State} (h : Reporting s t)
    (hpost : ∀ r (u : State), P u.events u.arbiter → P (Machine.post r u).events (Machine.post r u).arbiter)
    (hflag : ∀ src (u : State), P u.events u.arbiter →
      P (Machine.setPending src u).events (Machine.setPending src u).arbiter)
    (hs : P s.events s.arbiter) : P t.events t.arbiter := by
  induction h with
  | elsewhere _ he ha => rw [he, ha]; exact hs
  | post r s => exact hpost r s hs
  | setPending src s => exact hflag src s hs
  | trans _ _ ih ih' => exact ih' (ih hs)

/-! ### The shared operations -/

theorem postAll_reporting : ∀ (rs : List EventRecord) (s : State), Reporting s (postAll rs s)
  | [], _ => .rfl
  | r :: rest, s => (Reporting.post r s).trans (postAll_reporting rest _)

theorem finish_reporting {s : State} (c : Completion) (h : Reporting s c.state) : Reporting s (finish c) := by
  unfold finish
  refine h.trans (.trans ?_ (.setPending .command _))
  exact .elsewhere (Eq.refl _) (Eq.refl _) (Eq.refl _)

theorem completeCommand_reporting (code : Byte) (body : TakenCommand → State → Completion) (s : State)
    (h : ∀ p, Reporting s (body p s).state) : Reporting s (completeCommand code body s) := by
  unfold completeCommand
  split
  · exact finish_reporting _ (h _)
  · exact .rfl

theorem swapCommit_reporting (i : Fin 32) (s : State) : Reporting s (swapCommit i s) :=
  .elsewhere (Eq.refl _) (Eq.refl _) (Eq.refl _)

theorem takeCommit_reporting (i : Fin 32) (s : State) : Reporting s (takeCommit i s) := by
  unfold takeCommit
  split
  · exact (swapCommit_reporting i s).trans (.post _ _)
  · exact .rfl

theorem publishAnswer_reporting (i : Fin 32) (s : State) : Reporting s (publishAnswer i s) :=
  .elsewhere (Eq.refl _) (Eq.refl _) (Eq.refl _)

theorem storeAnswer_reporting (i : Fin 32) (b : ReceiveBuffer) (stamp : Word) (s : State) :
    Reporting s (storeAnswer i b stamp s) := by
  unfold storeAnswer
  dsimp only
  split
  · split <;> exact .elsewhere (Eq.refl _) (Eq.refl _) (Eq.refl _)
  · exact .elsewhere (Eq.refl _) (Eq.refl _) (Eq.refl _)

theorem closeOpenView_reporting (s : State) : Reporting s (closeOpenView s) := by
  unfold closeOpenView
  dsimp only
  split
  · split <;> exact .elsewhere (Eq.refl _) (Eq.refl _) (Eq.refl _)
  · exact .elsewhere (Eq.refl _) (Eq.refl _) (Eq.refl _)

theorem stationReport_reporting (i : Fin 32) (o : ExchangeResult) (b : Byte) (s : State) :
    Reporting s (stationReport i o b s) := by
  unfold stationReport
  refine .trans ?_ (postAll_reporting _ _)
  exact .elsewhere (Eq.refl _) (Eq.refl _) (Eq.refl _)

theorem finishDescriptor_reporting (d : Fin 16) (o : ExchangeResult) (n : Nat) (a : RequestAnswer) (s : State) :
    Reporting s (finishDescriptor d o n a s) := by
  unfold finishDescriptor
  refine .trans ?_ (.post _ _)
  exact .elsewhere (Eq.refl _) (Eq.refl _) (Eq.refl _)

theorem completeAllQueued_reporting (o : ExchangeResult) :
    ∀ (ds : List (Fin 16)) (s : State), Reporting s (completeAllQueued o ds s)
  | [], _ => .rfl
  | d :: rest, s => (finishDescriptor_reporting d o 0 _ s).trans (completeAllQueued_reporting o rest _)

theorem completeActive_reporting (d : Fin 16) (k : ExchangeKind) (o : ExchangeResult) (n : Nat) (b : ReceiveBuffer)
    (s : State) : Reporting s (completeActive d k o n b s) :=
  finishDescriptor_reporting d _ n _ s

/-! ### The exchange -/

theorem modEngine_reporting (x : Line) (f : LineEngine → LineEngine) (s : State) : Reporting s (s.modEngine x f) :=
  .elsewhere (Eq.refl _) (Eq.refl _) (Eq.refl _)

theorem modSweep_reporting (x : Line) (f : SweepController → SweepController) (s : State) :
    Reporting s (s.modSweep x f) :=
  .elsewhere (Eq.refl _) (Eq.refl _) (Eq.refl _)

theorem enterGuard_reporting (x : Line) (s : State) : Reporting s (enterGuard x s) := modEngine_reporting x _ s

theorem enterDraining_reporting (x : Line) (o : ExchangeResult) (s : State) : Reporting s (enterDraining x o s) :=
  modEngine_reporting x _ s

theorem closeAttempt_reporting (x : Line) (o : ExchangeResult) (s : State) : Reporting s (closeAttempt x o s) :=
  (modEngine_reporting x _ s).trans (enterGuard_reporting x _)

theorem beginCalling_reporting (x : Line) (s : State) : Reporting s (beginCalling x s) := by
  unfold beginCalling
  split
  · exact modEngine_reporting x _ s
  · exact .rfl

theorem acceptExchange_reporting (x : Line) (e : Exchange) (s : State) : Reporting s (acceptExchange x e s) :=
  modEngine_reporting x _ s

theorem startSlot_reporting (x : Line) (i : Fin 32) (k : ExchangeKind) (s : State) :
    Reporting s (startSlot x i k s) :=
  (takeCommit_reporting i s).trans (acceptExchange_reporting x _ _)

theorem handReport_reporting (o : ExchangeResult) (e : Exchange) (b : Byte) (s : State) :
    Reporting s (handReport o e b s) := by
  unfold handReport
  split
  · exact stationReport_reporting _ o b s
  · exact .rfl

theorem handAnswer_reporting (o : ExchangeResult) (e : Exchange) (b : ReceiveBuffer) (stamp : Word) (s : State) :
    Reporting s (handAnswer o e b stamp s) := by
  unfold handAnswer
  split
  · split
    · exact storeAnswer_reporting _ b stamp s
    · exact .rfl
  · split
    · exact storeAnswer_reporting _ b stamp s
    · exact .rfl
  · exact completeActive_reporting _ _ o _ b s
  · exact completeActive_reporting _ _ o _ b s
  · exact .rfl

theorem handOver_reporting (x : Line) (o : ExchangeResult) (e : Exchange) (s : State) :
    Reporting s (handOver x o e s) := by
  unfold handOver
  exact ((handReport_reporting o e _ s).trans (handAnswer_reporting o e _ _ _)).trans (modEngine_reporting x _ _)

theorem swapCommits_reporting : ∀ (is : List (Fin 32)) (s : State), Reporting s (swapCommits is s)
  | [], _ => .rfl
  | i :: rest, s => (swapCommit_reporting i s).trans (swapCommits_reporting rest _)

theorem enterQuietly_reporting (x : Line) (t : EntryTarget) (s : State) : Reporting s (enterQuietly x t s) := by
  have h := ((modEngine_reporting x (fun g => g.entered t) s).trans
    (modSweep_reporting x SweepController.abandoned _)).trans (swapCommits_reporting (pendingCommits s x) _)
  cases t
  · exact h
  · exact h.trans (.setPending _ _)

theorem enterLine_reporting (x : Line) (t : EntryTarget) (s : State) : Reporting s (enterLine x t s) :=
  (enterQuietly_reporting x t s).trans (postAll_reporting _ _)

theorem endInto_reporting (x : Line) (o : ExchangeResult) (t : EntryTarget) (s : State) :
    Reporting s (endInto x o t s) := by
  unfold endInto
  split
  · exact (handOver_reporting x o _ s).trans (enterLine_reporting x t _)
  · exact enterLine_reporting x t s

theorem lineFault_reporting (x : Line) (c : HaltCause) (s : State) : Reporting s (lineFault x c s) :=
  endInto_reporting x _ _ s

theorem endQuietly_reporting (x : Line) (s : State) : Reporting s (endQuietly x s) := by
  unfold endQuietly
  split
  · exact modEngine_reporting x _ s
  · split
    · exact .rfl
    · exact (modEngine_reporting x _ s).trans (modSweep_reporting x _ _)

/-! ### The Sweep Controller -/

theorem setStation_reporting (i : Fin 32) (r : Station) (s : State) : Reporting s (s.setStation i r) :=
  .elsewhere (Eq.refl _) (Eq.refl _) (Eq.refl _)

theorem scanSlots_reporting (x : Line) : ∀ (slots : List Slot) (s : State), Reporting s (scanSlots x slots s).1
  | [], s => by unfold scanSlots; exact .elsewhere (Eq.refl _) (Eq.refl _) (Eq.refl _)
  | slot :: rest, s => by
    unfold scanSlots
    split
    · dsimp only
      split
      · exact (modSweep_reporting x _ s).trans (scanSlots_reporting x rest _)
      · exact ((modSweep_reporting x _ s).trans (setStation_reporting _ _ _)).trans (scanSlots_reporting x rest _)
      · exact (modSweep_reporting x _ s).trans (setStation_reporting _ _ _)
      · exact modSweep_reporting x _ s
    · exact (modSweep_reporting x _ s).trans (scanSlots_reporting x rest _)

theorem takeHead_reporting (x : Line) (u : Urgency) (s : State) : Reporting s (takeHead x u s).1 := by
  unfold takeHead
  split
  · exact .rfl
  · exact .elsewhere (by simp) (by simp) (by simp)

theorem endSweep_reporting (x : Line) (s : State) : Reporting s (endSweep x s) := by
  unfold endSweep
  split
  · exact (Reporting.post _ s).trans (modSweep_reporting x _ _)
  · exact modSweep_reporting x _ s

theorem sweepPick_reporting (x : Line) (first : Bool) (s : State) : Reporting s (sweepPick x first s).1 := by
  unfold sweepPick
  dsimp only
  split
  · exact (modSweep_reporting x _ s).trans (takeHead_reporting x _ _)
  · exact scanSlots_reporting x _ s

theorem takeNormal_reporting (x : Line) (s : State) : Reporting s (takeNormal x s).1 := by
  unfold takeNormal
  split
  · exact (modSweep_reporting x _ s).trans (takeHead_reporting x _ _)
  · exact takeHead_reporting x _ s

theorem serviceAfterEmptySweep_reporting (x : Line) (s : State) : Reporting s (serviceAfterEmptySweep x s).1 := by
  unfold serviceAfterEmptySweep
  split
  · exact takeHead_reporting x _ s
  · split
    · exact takeNormal_reporting x s
    · split
      · exact enterGuard_reporting x s
      · exact .rfl

theorem freshSweep_reporting (x : Line) (s : State) : Reporting s (freshSweep x s).1 := by
  have h := (modSweep_reporting x (fun c => c.started (s.engineAt x).config.markEnable) s).trans
    (sweepPick_reporting x true (startSweep x s))
  unfold freshSweep
  split
  · next heq => rw [heq] at h; exact h
  · next heq =>
    rw [heq] at h
    exact h.trans ((endSweep_reporting x _).trans (serviceAfterEmptySweep_reporting x _))

theorem service_reporting (x : Line) (s : State) : Reporting s (service x s).1 := by
  unfold service
  dsimp only
  split
  · exact freshSweep_reporting x s
  · split
    · exact takeHead_reporting x _ s
    · split
      · exact takeNormal_reporting x s
      · split
        · split
          · exact freshSweep_reporting x s
          · exact enterGuard_reporting x s
        · exact .rfl

theorem pick_reporting (x : Line) (s : State) : Reporting s (pick x s).1 := by
  have h := sweepPick_reporting x false s
  unfold pick
  split
  · split
    · next heq => rw [heq] at h; exact h
    · next heq =>
      rw [heq] at h
      exact h.trans ((endSweep_reporting x _).trans (service_reporting x _))
  · exact service_reporting x s
  · exact .rfl

theorem giveWork_reporting {x : Line} {s : State} {p : State × Option Work} (h : Reporting s p.1) :
    Reporting s (giveWork x p) := by
  unfold giveWork
  split
  · exact h
  · dsimp only
    have hm : Reporting s (if (p.1.engineAt x).config.mode = .repeating then
        p.1.modSweep x fun c => { c with exchangeTaken := true } else p.1) := by
      split
      · exact h.trans (modSweep_reporting x _ _)
      · exact h
    split
    · exact hm.trans (startSlot_reporting x _ _ _)
    · exact hm.trans (acceptExchange_reporting x _ _)

theorem pickAndGive_reporting (x : Line) (s : State) : Reporting s (pickAndGive x s) :=
  giveWork_reporting (pick_reporting x s)

theorem sweepAndGive_reporting (x : Line) (s : State) : Reporting s (sweepAndGive x s) :=
  giveWork_reporting (freshSweep_reporting x s)

theorem cycleStart_reporting (x : Line) (k : CycleStartKind) (s : State) : Reporting s (cycleStart x k s) := by
  unfold cycleStart
  split
  · exact .rfl
  · exact sweepAndGive_reporting x s
  · exact modSweep_reporting x _ s
  · exact ((modSweep_reporting x _ s).trans (modEngine_reporting x _ _)).trans (.post _ _)
  · exact (modEngine_reporting x _ s).trans (.post _ _)

theorem goOn_reporting (x : Line) (k : ExchangeKind) (s : State) : Reporting s (goOn x k s) := by
  unfold goOn
  dsimp only
  split
  · split
    · exact acceptExchange_reporting x _ s
    · exact enterLine_reporting x _ s
  · split
    · exact pickAndGive_reporting x s
    · exact enterLine_reporting x _ s
    · exact .rfl
    · exact .rfl

theorem beginWaiting_reporting (x : Line) (e : Exchange) (s : State) : Reporting s (beginWaiting x e s) := by
  unfold beginWaiting
  split <;> exact modEngine_reporting x _ s

theorem guardExpiry_reporting (x : Line) (s : State) : Reporting s (guardExpiry x s) := by
  unfold guardExpiry
  dsimp only
  split
  · split
    · exact beginWaiting_reporting x _ s
    · split
      · exact beginCalling_reporting x s
      · exact (handOver_reporting x _ _ s).trans (goOn_reporting x _ _)
  · split
    · exact (modEngine_reporting x _ s).trans (sweepAndGive_reporting x _)
    · exact modEngine_reporting x _ s

/-! ### The supervision expiry -/

theorem expiryEffect_reporting (x : Line) (s : State) : Reporting s (expiryEffect x s) := by
  unfold expiryEffect
  split
  · exact .rfl
  · exact modEngine_reporting x _ s
  · exact (modEngine_reporting x _ s).trans (acceptExchange_reporting x _ _)
  · exact enterQuietly_reporting x _ s

theorem interleave_reporting : ∀ (rs rs' : List EventRecord) (s : State), Reporting s (interleave rs rs' s).2
  | [], _, _ => .rfl
  | _ :: rest, _, s =>
    (Reporting.elsewhere (Eq.refl _) (Eq.refl _) (Eq.refl _) : Reporting s s.takeFree.2).trans
      (interleave_reporting rest _ _)

theorem expiryOnLines_reporting (s : State) : Reporting s (expiryOnLines s) :=
  (((expiryEffect_reporting .a s).trans (expiryEffect_reporting .b _)).trans (interleave_reporting _ _ _)).trans
    (postAll_reporting _ _)

theorem supervisionExpiry_reporting (s : State) : Reporting s (supervisionExpiry s) := by
  unfold supervisionExpiry
  split
  · dsimp only
    have h : Reporting s (post (supervisionExpiredRecord s.supervision.period)
        (setPending .supervision { s with supervision := { s.supervision with state := .expired, countdown := 0 } })) := by
      refine .trans (.trans ?_ (.setPending _ _)) (.post _ _)
      exact .elsewhere (Eq.refl _) (Eq.refl _) (Eq.refl _)
    split
    · exact h.trans (expiryOnLines_reporting _)
    · exact h
  · exact .rfl

end Sys2Proof.Machine
end

