-- ==== Sys2Proof/Laws/Commands.lean ====
section
/-! SUPPORT. What each command's effect can do to the Event Queue, the Interrupt Arbiter and the command queue: one lemma
per completion body and per line event. -/

namespace Sys2Proof.Machine

/-! ### Completions -/

theorem defineStation_reporting (p : TakenCommand) (s : State) : Reporting s (defineStation p s).state := by
  unfold defineStation
  dsimp only
  split
  · exact .rfl
  · split
    · exact .rfl
    · split
      · exact .rfl
      · dsimp only
        split
        · refine .trans ?_ (.post _ _)
          exact .elsewhere (Eq.refl _) (Eq.refl _) (Eq.refl _)
        · exact .elsewhere (Eq.refl _) (Eq.refl _) (Eq.refl _)

theorem dropStation_reporting (p : TakenCommand) (s : State) : Reporting s (dropStation p s).state := by
  unfold dropStation
  dsimp only
  repeat' split
  all_goals first
    | exact .rfl
    | exact setStation_reporting _ _ s
    | exact (setStation_reporting _ _ s).trans (.post _ _)

theorem enableStation_reporting (p : TakenCommand) (s : State) : Reporting s (enableStation p s).state := by
  unfold enableStation
  dsimp only
  repeat' split
  all_goals first
    | exact .rfl
    | exact (setStation_reporting _ _ s).trans (.post _ _)

theorem removeQueuedFor_reporting (s : State) (x : Line) (i : Fin 32) : Reporting s (removeQueuedFor s x i) :=
  .elsewhere (Eq.refl _) (Eq.refl _) (Eq.refl _)

theorem disableStation_reporting (p : TakenCommand) (s : State) : Reporting s (disableStation p s).state := by
  unfold disableStation
  dsimp only
  split
  · exact .rfl
  · split
    · exact .rfl
    · dsimp only
      refine .trans (.trans ?_ (removeQueuedFor_reporting _ _ _)) (completeAllQueued_reporting _ _ _)
      split
      · exact .rfl
      · exact (setStation_reporting _ _ s).trans (.post _ _)

theorem setStationLimits_reporting (p : TakenCommand) (s : State) : Reporting s (setStationLimits p s).state := by
  unfold setStationLimits
  dsimp only
  repeat' split
  all_goals first
    | exact .rfl
    | exact setStation_reporting _ _ s
    | exact (setStation_reporting _ _ s).trans (.post _ _)

theorem loadSweep_reporting (p : TakenCommand) (s : State) : Reporting s (loadSweep p s).state := by
  unfold loadSweep
  dsimp only
  repeat' split
  all_goals first
    | exact .rfl
    | exact .elsewhere (Eq.refl _) (Eq.refl _) (Eq.refl _)

theorem setLine_reporting (p : TakenCommand) (s : State) : Reporting s (setLine p s).state := by
  unfold setLine
  dsimp only
  repeat' split
  all_goals first
    | exact .rfl
    | exact .elsewhere (Eq.refl _) (Eq.refl _) (Eq.refl _)

theorem setPeriod_reporting (p : TakenCommand) (s : State) : Reporting s (setPeriod p s).state := by
  unfold setPeriod
  dsimp only
  repeat' split
  all_goals first
    | exact .rfl
    | exact .elsewhere (Eq.refl _) (Eq.refl _) (Eq.refl _)

theorem startedLine_reporting (x : Line) (s : State) : Reporting s (startedLine x s) := by
  unfold startedLine
  exact ((modEngine_reporting x _ s).trans (modSweep_reporting x _ _)).trans (enterGuard_reporting x _)

theorem startLine_reporting (p : TakenCommand) (s : State) : Reporting s (startLine p s).state := by
  unfold startLine
  dsimp only
  repeat' split
  all_goals first
    | exact .rfl
    | exact (startedLine_reporting _ s).trans (pickAndGive_reporting _ _)
    | exact (startedLine_reporting _ s).trans (sweepAndGive_reporting _ _)

theorem stopLine_reporting (p : TakenCommand) (s : State) : Reporting s (stopLine p s).state := by
  unfold stopLine
  dsimp only
  repeat' split
  all_goals first
    | exact .rfl
    | exact enterLine_reporting _ _ s
    | exact .elsewhere (Eq.refl _) (Eq.refl _) (Eq.refl _)

theorem abortLine_reporting (p : TakenCommand) (s : State) : Reporting s (abortLine p s).state := by
  unfold abortLine
  dsimp only
  repeat' split
  all_goals first
    | exact .rfl
    | exact endInto_reporting _ _ _ s
    | exact .elsewhere (Eq.refl _) (Eq.refl _) (Eq.refl _)

theorem sweepNow_reporting (p : TakenCommand) (s : State) : Reporting s (sweepNow p s).state := by
  unfold sweepNow
  dsimp only
  repeat' split
  all_goals first
    | exact .rfl
    | exact cycleStart_reporting _ _ s

theorem enqueue_reporting (d : Fin 16) (t : Target) (f tag : Byte) (u : Urgency) (n : Nat) (s : State) :
    Reporting s (enqueue d t f tag u n s) := by
  unfold enqueue
  exact .elsewhere (by simp) (by simp) (by simp)

theorem postRequest_reporting (p : TakenCommand) (s : State) : Reporting s (postRequest p s).state := by
  unfold postRequest
  dsimp only
  repeat' split
  all_goals first
    | exact .rfl
    | exact (enqueue_reporting _ _ _ _ _ _ s).trans (pickAndGive_reporting _ _)
    | exact enqueue_reporting _ _ _ _ _ _ s

theorem cancelRequest_reporting (p : TakenCommand) (s : State) : Reporting s (cancelRequest p s).state := by
  unfold cancelRequest
  dsimp only
  repeat' split
  all_goals first
    | exact .rfl
    | exact .elsewhere (Eq.refl _) (Eq.refl _) (Eq.refl _)
    | (refine .trans ?_ (finishDescriptor_reporting _ _ _ _ _)
       exact .elsewhere (by simp [leaveFifo]) (by simp [leaveFifo]) (by simp [leaveFifo]))

theorem flushRequests_reporting (p : TakenCommand) (s : State) : Reporting s (flushRequests p s).state := by
  unfold flushRequests
  dsimp only
  split
  · exact .rfl
  · refine .trans ?_ (completeAllQueued_reporting _ _ _)
    unfold emptyFifos
    dsimp only
    repeat' split
    all_goals exact .elsewhere (Eq.refl _) (Eq.refl _) (Eq.refl _)

theorem collectRequest_reporting (p : TakenCommand) (s : State) : Reporting s (collectRequest p s).state := by
  unfold collectRequest
  dsimp only
  repeat' split
  all_goals exact .elsewhere (Eq.refl _) (Eq.refl _) (Eq.refl _)

theorem commitCall_reporting (p : TakenCommand) (s : State) : Reporting s (commitCall p s).state := by
  unfold commitCall
  dsimp only
  repeat' split
  all_goals exact .elsewhere (Eq.refl _) (Eq.refl _) (Eq.refl _)

theorem openNewView_reporting (v : OpenView) (s : State) : Reporting s (openNewView v s) := by
  refine (closeOpenView_reporting s).trans ?_
  unfold openNewView
  cases v
  case requestCall d =>
    dsimp only [reserveDescriptor]
    split <;> exact .elsewhere (Eq.refl _) (Eq.refl _) (Eq.refl _)
  all_goals exact .elsewhere (Eq.refl _) (Eq.refl _) (Eq.refl _)

theorem openView_reporting (p : TakenCommand) (s : State) : Reporting s (openView p s).state := by
  unfold openView
  repeat' split
  all_goals first
    | exact .rfl
    | exact openNewView_reporting _ s

theorem closeView_reporting (p : TakenCommand) (s : State) : Reporting s (closeView p s).state :=
  closeOpenView_reporting s

theorem setSupervision_reporting (p : TakenCommand) (s : State) : Reporting s (setSupervision p s).state := by
  unfold setSupervision
  dsimp only
  repeat' split
  all_goals exact .elsewhere (Eq.refl _) (Eq.refl _) (Eq.refl _)

theorem unknownCommand_reporting (s : State) : Reporting s (unknownCommand s) := by
  unfold unknownCommand
  split
  · split
    · exact .rfl
    · exact finish_reporting _ .rfl
  · exact .rfl

/-! ### The window, less the Arbiter's and the Event Queue's registers -/

theorem cmdWrite_reporting (lanes : Lanes) (data : Word) (s : State) : Reporting s (cmdWrite lanes data s) := by
  unfold cmdWrite
  dsimp only
  have h : ∀ w, Reporting s (takeCommand w s) := by
    intro w
    unfold takeCommand
    dsimp only
    split
    · refine .trans (.trans ?_ (endQuietly_reporting .a _)) (endQuietly_reporting .b _)
      exact .elsewhere (Eq.refl _) (Eq.refl _) (Eq.refl _)
    · exact .elsewhere (Eq.refl _) (Eq.refl _) (Eq.refl _)
  split
  · exact h _
  · exact h _
  · exact .elsewhere (Eq.refl _) (Eq.refl _) (Eq.refl _)

theorem writePortByte_reporting (offset b : Byte) (s : State) : Reporting s (writePortByte offset b s) := by
  unfold writePortByte
  repeat' split
  all_goals exact .elsewhere (Eq.refl _) (Eq.refl _) (Eq.refl _)

theorem advanceOffset_reporting (lanes : Lanes) (s : State) : Reporting s (advanceOffset lanes s) := by
  unfold advanceOffset
  split <;> exact .elsewhere (Eq.refl _) (Eq.refl _) (Eq.refl _)

theorem dataWrite_reporting (lanes : Lanes) (data : Word) (s : State) : Reporting s (dataWrite lanes data s) := by
  unfold dataWrite
  split
  · refine .trans (.trans (t := match lanes with
      | .word => writePortByte (s.port.offset + 1) (hiByte data) (writePortByte s.port.offset (loByte data) s)
      | .low => writePortByte s.port.offset (loByte data) s
      | .high => writePortByte s.port.offset (hiByte data) s) ?_ (advanceOffset_reporting lanes _)) ?_
    · cases lanes
      · exact (writePortByte_reporting _ _ s).trans (writePortByte_reporting _ _ _)
      · exact writePortByte_reporting _ _ s
      · exact writePortByte_reporting _ _ s
    · exact .elsewhere (Eq.refl _) (Eq.refl _) (Eq.refl _)
  · exact .elsewhere (Eq.refl _) (Eq.refl _) (Eq.refl _)

theorem dataRead_reporting (lanes : Lanes) (s : State) : Reporting s (dataRead lanes s) := by
  unfold dataRead
  dsimp only
  split
  · refine .trans (.trans ?_ (advanceOffset_reporting lanes (driveData lanes (aheadWord lanes (currentAhead s)) s))) ?_
    · exact .elsewhere (Eq.refl _) (Eq.refl _) (Eq.refl _)
    · exact .elsewhere (Eq.refl _) (Eq.refl _) (Eq.refl _)
  · exact .elsewhere (Eq.refl _) (Eq.refl _) (Eq.refl _)

theorem viewOffsetWrite_reporting (lanes : Lanes) (data : Word) (s : State) :
    Reporting s (viewOffsetWrite lanes data s) := by
  unfold viewOffsetWrite
  split <;> exact .elsewhere (Eq.refl _) (Eq.refl _) (Eq.refl _)

theorem supvRefresh_reporting (s : State) : Reporting s (supvRefresh s) := by
  unfold supvRefresh
  split <;> exact .elsewhere (Eq.refl _) (Eq.refl _) (Eq.refl _)

/-! ### Line events -/

theorem endTail_reporting (x : Line) (s : State) : Reporting s (endTail x s) := by
  unfold endTail
  split
  · exact endInto_reporting x _ _ s
  · exact (modEngine_reporting x _ s).trans (modSweep_reporting x _ _)

theorem endCalling_reporting (x : Line) (e : Exchange) (s : State) : Reporting s (endCalling x e s) := by
  unfold endCalling
  dsimp only
  split
  all_goals first
    | exact (modEngine_reporting x _ s).trans (modEngine_reporting x _ _)
    | exact (modEngine_reporting x _ s).trans (closeAttempt_reporting x _ _)

theorem callFrameSent_reporting (x : Line) (s : State) : Reporting s (callFrameSent x s) := by
  unfold callFrameSent
  dsimp only
  repeat' split
  all_goals first
    | exact .rfl
    | exact endTail_reporting x s
    | exact endCalling_reporting x _ s

theorem startBitArrival_reporting (x : Line) (s : State) : Reporting s (startBitArrival x s) := by
  unfold startBitArrival
  dsimp only
  repeat' split
  all_goals exact .elsewhere (Eq.refl _) (Eq.refl _) (Eq.refl _)

theorem pinReturnsHigh_reporting (x : Line) (s : State) : Reporting s (pinReturnsHigh x s) := by
  unfold pinReturnsHigh
  dsimp only
  repeat' split
  all_goals exact .elsewhere (Eq.refl _) (Eq.refl _) (Eq.refl _)

theorem strayCharacter_reporting (x : Line) (s : State) : Reporting s (strayCharacter x s) :=
  (modEngine_reporting x _ s).trans (enterGuard_reporting x _)

theorem answerCharacter_reporting (x : Line) (e : Exchange) (data : Byte) (stop : Bool) (s : State) :
    Reporting s (answerCharacter x e data stop s) := by
  unfold answerCharacter
  dsimp only
  repeat' split
  all_goals first
    | exact enterDraining_reporting x _ s
    | exact (modEngine_reporting x _ s).trans (closeAttempt_reporting x _ _)
    | exact modEngine_reporting x _ s

theorem endCharacter_reporting (x : Line) (data : Byte) (mark stop : Bool) (s : State) :
    Reporting s (endCharacter x data mark stop s) := by
  unfold endCharacter
  split <;> exact .elsewhere (Eq.refl _) (Eq.refl _) (Eq.refl _)

theorem characterReceived_reporting (x : Line) (data : Byte) (mark stop : Bool) (s : State) :
    Reporting s (characterReceived x data mark stop s) := by
  have h := endCharacter_reporting x data mark stop s
  unfold characterReceived
  dsimp only
  split
  · split
    · exact h.trans (lineFault_reporting x _ _)
    · split
      · exact h.trans (answerCharacter_reporting x _ data stop _)
      · exact h.trans (modEngine_reporting x _ _)
      · exact h.trans (strayCharacter_reporting x _)
      · exact h.trans (strayCharacter_reporting x _)
      · exact h
      · exact h
      · exact h
  · exact .rfl

theorem setRx_reporting (x : Line) (level : PinLevel) (s : State) : Reporting s (s.setRx x level) :=
  .elsewhere (Eq.refl _) (Eq.refl _) (Eq.refl _)

theorem aheadOfEdges_reporting (x : Line) (e : FallingEdge) (effect : State → State) (s : State)
    (h : ∀ u, Reporting u (effect u)) : Reporting s (aheadOfEdges x e effect s) := by
  have landed := (((setRx_reporting x .high s).trans (modEngine_reporting x (fun g => g.rejected e) _)).trans
    (h _)).trans (setRx_reporting x (s.pins.rx.get x) _)
  unfold aheadOfEdges
  dsimp only
  repeat' split
  all_goals first
    | exact landed
    | exact landed.trans (modEngine_reporting x _ _)

theorem spanReached_reporting (x : Line) (state : ExchangeState) (effect : State → State) (s : State)
    (h : ∀ u, Reporting u (effect u)) : Reporting s (spanReached x state effect s) := by
  unfold spanReached
  dsimp only
  repeat' split
  all_goals first
    | exact h s
    | exact .rfl
    | exact aheadOfEdges_reporting x _ effect s h
    | exact modEngine_reporting x _ s

theorem answerTimeout_reporting (x : Line) (s : State) : Reporting s (answerTimeout x s) :=
  spanReached_reporting x _ _ s (closeAttempt_reporting x _)

theorem gapLimitExpiry_reporting (x : Line) (s : State) : Reporting s (gapLimitExpiry x s) :=
  spanReached_reporting x _ _ s (closeAttempt_reporting x _)

theorem drainSilenceEnd_reporting (x : Line) (s : State) : Reporting s (drainSilenceEnd x s) :=
  spanReached_reporting x _ _ s (enterGuard_reporting x)

theorem guardTimeExpiry_reporting (x : Line) (s : State) : Reporting s (guardTimeExpiry x s) :=
  spanReached_reporting x _ _ s (guardExpiry_reporting x)

theorem breakDetected_reporting (x : Line) (s : State) : Reporting s (breakDetected x s) := by
  unfold breakDetected
  split
  · exact lineFault_reporting x _ s
  · exact .rfl

theorem abortTailEnd_reporting (x : Line) (s : State) : Reporting s (abortTailEnd x s) := by
  unfold abortTailEnd
  dsimp only
  split
  · exact endTail_reporting x s
  · exact .rfl

theorem cycleTimerExpiry_reporting (x : Line) (s : State) : Reporting s (cycleTimerExpiry x s) := by
  unfold cycleTimerExpiry
  split
  · exact (modSweep_reporting x _ s).trans (cycleStart_reporting x _ _)
  · exact .rfl

theorem syncFallingEdge_reporting (x : Line) (s : State) : Reporting s (syncFallingEdge x s) := by
  unfold syncFallingEdge
  split
  · exact cycleStart_reporting x _ s
  · exact .rfl

theorem readyAfterReset_reporting (s : State) : Reporting s (readyAfterReset s) := by
  unfold readyAfterReset
  split <;> exact .elsewhere (Eq.refl _) (Eq.refl _) (Eq.refl _)

/-! ### Time -/

/-- What falls due only joins the queue; the Event Queue and the Arbiter stay. -/
theorem enqueueDue_events : ∀ (cs : List Instr) (s : State),
    (enqueueDue cs s).events = s.events ∧ (enqueueDue cs s).arbiter = s.arbiter
  | [], _ => ⟨Eq.refl _, Eq.refl _⟩
  | c :: rest, s => by
    unfold enqueueDue
    exact enqueueDue_events rest _

theorem tick_events (s : State) : (tick s).events = s.events ∧ (tick s).arbiter = s.arbiter := by
  unfold tick
  exact enqueueDue_events _ _

end Sys2Proof.Machine
end

