-- ==== Sys2Proof/Laws/Completion.lean ====
section
/-! SUPPORT. A command's completion: what `completeCommand` gives while its command is in progress (R182), and what its
parameters read as once they are in range (R184, R189). -/

namespace Sys2Proof.Machine

/-- The completion of the command in progress is its body, then the results (R182). -/
theorem completeCommand_of_inProgress {s : State} {code : Byte} {p : TakenCommand}
    {body : TakenCommand → State → Completion} (h : s.inProgress code = some p) :
    completeCommand code body s = (body p s).state.completed (body p s).result (body p s).detail := by
  unfold completeCommand
  rw [h]
  exact Eq.refl _

/-- With no such command in progress nothing changes (log 3). -/
theorem completeCommand_of_none {s : State} {code : Byte} {body : TakenCommand → State → Completion}
    (h : s.inProgress code = none) : completeCommand code body s = s := by
  unfold completeCommand
  rw [h]

/-- The command in progress is BUSY, taken, and has the code (R179, R180). -/
theorem inProgress_eq_some {s : State} {code : Byte} {p : TakenCommand} :
    s.inProgress code = some p ↔ s.command.state = .busy ∧ s.command.taken = some p ∧ loByte p.code = code := by
  unfold State.inProgress
  split
  · next hs ht =>
    rw [hs, ht]
    simp only [true_and, Option.some.injEq]
    split
    · next hc =>
      refine ⟨fun h => ?_, fun h => by rw [h.1]⟩
      cases h
      exact ⟨Eq.refl _, hc⟩
    · next hc =>
      refine ⟨fun h => (nomatch h), fun h => absurd ?_ hc⟩
      rw [h.1]
      exact h.2
  · next hn =>
    refine ⟨fun h => (nomatch h), fun h => ?_⟩
    exact absurd h.2.1 (hn p h.1)

/-- All parameters in range: no position (R184). -/
theorem firstOutOfRange_eq_none {l : List Bool} (h : ∀ b ∈ l, b = true) : firstOutOfRange l = none := by
  induction l with
  | nil => exact Eq.refl _
  | cons a l ih =>
    unfold firstOutOfRange
    rw [h a (by simp), if_pos (Eq.refl _), ih fun b hb => h b (by simp [hb])]
    exact Eq.refl _

theorem fieldOf_low (w : Word) : fieldOf w 0 8 = (loByte w).toNat := Eq.refl _

theorem fieldOf_high (w : Word) : fieldOf w 8 8 = (hiByte w).toNat := Eq.refl _

@[simp] theorem stationOfNat_val (i : Fin 32) : stationOfNat i.val = i := Fin.ext (Nat.mod_eq_of_lt i.isLt)

@[simp] theorem descriptorOfNat_val (d : Fin 16) : descriptorOfNat d.val = d := Fin.ext (Nat.mod_eq_of_lt d.isLt)

@[simp] theorem lineOfNat_lineCode (x : Line) : lineOfNat (lineCode x).toNat = x := by cases x <;> exact Eq.refl _

theorem lineCode_lt (x : Line) : (lineCode x).toNat < 2 := by cases x <;> decide

end Sys2Proof.Machine
end

