-- ==== Sys2Proof/Laws/PerInstr.lean ====
section
/-! SUPPORT. One lemma per command about its well-formedness: the family WellFormed of LAWS.json. -/

namespace Sys2Proof.Laws

/-- What makes a command stand in its row (R164, R165, R168, R169, R176): the low byte for INT_SVC_WRITE and
VIEW_OFFSET_WRITE, the high byte for INT_STATUS_READ, an address without a row of its own for REGISTER_WRITE, nothing for
the other commands. -/
def WellFormed.Statement : Instr → Prop
  | .intSvcWrite lanes data => (Instr.intSvcWrite lanes data).wellFormed = true ↔ lanes = .word ∨ lanes = .low
  | .viewOffsetWrite lanes data => (Instr.viewOffsetWrite lanes data).wellFormed = true ↔ lanes = .word ∨ lanes = .low
  | .intStatusRead lanes => (Instr.intStatusRead lanes).wellFormed = true ↔ lanes = .word ∨ lanes = .high
  | .registerWrite address lanes data =>
    (Instr.registerWrite address lanes data).wellFormed = true ↔
      address ∉ [0x01#5, 0x0A#5, 0x11#5, 0x15#5, 0x18#5, 0x19#5, 0x1A#5, 0x1C#5]
        ∧ (address ∈ [0x09#5, 0x16#5] → lanes = .high)
  | c => c.wellFormed = true

theorem WellFormed.defineStation : WellFormed.Statement .defineStation := Eq.refl true

theorem WellFormed.dropStation : WellFormed.Statement .dropStation := Eq.refl true

theorem WellFormed.enableStation : WellFormed.Statement .enableStation := Eq.refl true

theorem WellFormed.disableStation : WellFormed.Statement .disableStation := Eq.refl true

theorem WellFormed.setStationLimits : WellFormed.Statement .setStationLimits := Eq.refl true

theorem WellFormed.loadSweep : WellFormed.Statement .loadSweep := Eq.refl true

theorem WellFormed.setLine : WellFormed.Statement .setLine := Eq.refl true

theorem WellFormed.setPeriod : WellFormed.Statement .setPeriod := Eq.refl true

theorem WellFormed.startLine : WellFormed.Statement .startLine := Eq.refl true

theorem WellFormed.stopLine : WellFormed.Statement .stopLine := Eq.refl true

theorem WellFormed.abortLine : WellFormed.Statement .abortLine := Eq.refl true

theorem WellFormed.sweepNow : WellFormed.Statement .sweepNow := Eq.refl true

theorem WellFormed.postRequest : WellFormed.Statement .postRequest := Eq.refl true

theorem WellFormed.cancelRequest : WellFormed.Statement .cancelRequest := Eq.refl true

theorem WellFormed.flushRequests : WellFormed.Statement .flushRequests := Eq.refl true

theorem WellFormed.collectRequest : WellFormed.Statement .collectRequest := Eq.refl true

theorem WellFormed.commitCall : WellFormed.Statement .commitCall := Eq.refl true

theorem WellFormed.openView : WellFormed.Statement .openView := Eq.refl true

theorem WellFormed.closeView : WellFormed.Statement .closeView := Eq.refl true

theorem WellFormed.setSupervision : WellFormed.Statement .setSupervision := Eq.refl true

theorem WellFormed.softReset : WellFormed.Statement .softReset := Eq.refl true

theorem WellFormed.unknownCommand : WellFormed.Statement .unknownCommand := Eq.refl true

theorem WellFormed.commandCollision (lanes : Lanes) (data : Word) : WellFormed.Statement (.commandCollision lanes data) :=
    Eq.refl true

theorem WellFormed.evtAdvance (lanes : Lanes) (data : Word) : WellFormed.Statement (.evtAdvance lanes data) :=
    Eq.refl true

theorem WellFormed.intClaim (lanes : Lanes) : WellFormed.Statement (.intClaim lanes) := Eq.refl true

theorem WellFormed.intEos (lanes : Lanes) (data : Word) : WellFormed.Statement (.intEos lanes data) := Eq.refl true

theorem WellFormed.intSvcWrite (lanes : Lanes) (data : Word) : WellFormed.Statement (.intSvcWrite lanes data) := by
  cases lanes <;> simp [WellFormed.Statement, Instr.wellFormed, Lanes.includesLow]

theorem WellFormed.intStatusRead (lanes : Lanes) : WellFormed.Statement (.intStatusRead lanes) := by
  cases lanes <;> simp [WellFormed.Statement, Instr.wellFormed, Lanes.includesHigh]

theorem WellFormed.intPendWrite (lanes : Lanes) (data : Word) : WellFormed.Statement (.intPendWrite lanes data) :=
    Eq.refl true

theorem WellFormed.intLevelsWrite (register : LevelsRegister) (lanes : Lanes) (data : Word) :
    WellFormed.Statement (.intLevelsWrite register lanes data) := Eq.refl true

theorem WellFormed.supvRefresh (lanes : Lanes) (data : Word) : WellFormed.Statement (.supvRefresh lanes data) :=
    Eq.refl true

theorem WellFormed.dataRead (lanes : Lanes) : WellFormed.Statement (.dataRead lanes) := Eq.refl true

theorem WellFormed.dataWrite (lanes : Lanes) (data : Word) : WellFormed.Statement (.dataWrite lanes data) :=
    Eq.refl true

theorem WellFormed.viewOffsetWrite (lanes : Lanes) (data : Word) :
    WellFormed.Statement (.viewOffsetWrite lanes data) := by
  cases lanes <;> simp [WellFormed.Statement, Instr.wellFormed, Lanes.includesLow]

theorem WellFormed.registerWrite (address : WindowAddress) (lanes : Lanes) (data : Word) :
    WellFormed.Statement (.registerWrite address lanes data) := by
  cases lanes <;> simp [WellFormed.Statement, Instr.wellFormed, hasRowOfItsOwn, Lanes.includesLow]

theorem WellFormed.pinResetAssert : WellFormed.Statement .pinResetAssert := Eq.refl true

theorem WellFormed.pinResetRelease : WellFormed.Statement .pinResetRelease := Eq.refl true

theorem WellFormed.readyAfterReset : WellFormed.Statement .readyAfterReset := Eq.refl true

theorem WellFormed.syncFallingEdge (line : Line) : WellFormed.Statement (.syncFallingEdge line) := Eq.refl true

theorem WellFormed.characterReceived (line : Line) (data : Byte) (mark : Bool) (stop : Bool) : WellFormed.Statement (.characterReceived line data mark stop) :=
    Eq.refl true

theorem WellFormed.callFrameSent (line : Line) : WellFormed.Statement (.callFrameSent line) := Eq.refl true

theorem WellFormed.abortTailEnd (line : Line) : WellFormed.Statement (.abortTailEnd line) := Eq.refl true

theorem WellFormed.answerTimeout (line : Line) : WellFormed.Statement (.answerTimeout line) := Eq.refl true

theorem WellFormed.gapLimitExpiry (line : Line) : WellFormed.Statement (.gapLimitExpiry line) := Eq.refl true

theorem WellFormed.drainSilenceEnd (line : Line) : WellFormed.Statement (.drainSilenceEnd line) := Eq.refl true

theorem WellFormed.guardTimeExpiry (line : Line) : WellFormed.Statement (.guardTimeExpiry line) := Eq.refl true

theorem WellFormed.breakDetected (line : Line) : WellFormed.Statement (.breakDetected line) := Eq.refl true

theorem WellFormed.cycleTimerExpiry (line : Line) : WellFormed.Statement (.cycleTimerExpiry line) := Eq.refl true

theorem WellFormed.supervisionExpiry : WellFormed.Statement .supervisionExpiry := Eq.refl true

theorem WellFormed.commandTake (lanes : Lanes) (data : Word) : WellFormed.Statement (.commandTake lanes data) :=
    Eq.refl true

theorem WellFormed.startBitArrival (line : Line) : WellFormed.Statement (.startBitArrival line) := Eq.refl true

theorem WellFormed.pinReturnsHigh (line : Line) : WellFormed.Statement (.pinReturnsHigh line) := Eq.refl true

end Sys2Proof.Laws
end

