-- ==== Sys2Proof/Laws/Receiver.lean ====
section
/-! SUPPORT. What the shared operations of the receiver, of the timers and of the supervision expiry do, said once. -/

namespace Sys2Proof.Machine

/-! ### The engine of a line -/

theorem modEngine_modEngine (x : Line) (f h : LineEngine → LineEngine) (s : State) :
    (s.modEngine x f).modEngine x h = s.modEngine x fun g => h (f g) := by
  cases x <;> exact Eq.refl _

/-- A change of a line's engine is what it makes of the engine as it stands. -/
theorem modEngine_congr (x : Line) (f h : LineEngine → LineEngine) (s : State) (e : f (s.engineAt x) = h (s.engineAt x)) :
    s.modEngine x f = s.modEngine x h := by
  simp only [State.modEngine, e]

/-! ### Characters and their edges (R74, R75) -/

/-- The edges tell exactly where each bit at another level than the pin's was sampled before the last of them. -/
theorem edgesTell_iff (g : LineEngine) (pin : PinLevel) (data : Byte) (mark stop : Bool) :
    g.edgesTell pin data mark stop = true ↔
      ∃ r, g.reception = some r ∧
        ∀ p ∈ (sampledLevels data mark stop).zipIdx, p.1 ≠ decide (pin = .high) →
          (2 * p.2 + 1) * g.config.bitTime ≤ 2 * r.lastEdge := by
  unfold LineEngine.edgesTell
  cases g.reception with
  | none => simp
  | some r => simp [Decidable.or_iff_not_imp_left]

/-- A character's end touches the pin, the reception, the edges and the break measurement alone. -/
theorem endCharacter_frame (x : Line) (data : Byte) (mark stop : Bool) (s : State) :
    let t := endCharacter x data mark stop s
    t = { s with pins := t.pins, engine := t.engine }
      ∧ t.engineAt x =
        { s.engineAt x with reception := none, edge := none, lowSpan := (t.engineAt x).lowSpan } := by
  unfold endCharacter
  dsimp only
  split
  · exact ⟨Eq.refl _, by simp⟩
  · exact ⟨Eq.refl _, by simp⟩

/-- An expiry that comes with no edge waiting takes effect exactly where its span runs. -/
theorem spanReached_free (x : Line) (state : ExchangeState) (effect : State → State) (s : State)
    (h : (s.engineAt x).edge = none) :
    spanReached x state effect s = if (s.engineAt x).timing state then effect s else s := by
  simp only [spanReached, h]

/-- The rows a line's span can make due: the one expiry of its exchange state, where the span has run out and no edge
that fell before waits for its sample (R74). -/
theorem mem_dueSpan (g : LineEngine) (x : Line) (c : Instr) :
    c ∈ g.dueSpan x ↔
      (g.edge = none ∧ g.span = some 0 ∧ c ∈ expiryOf x g.exState)
        ∨ ∃ e, g.edge = some e ∧ e.overdue = true ∧ e.span = some 0 ∧ c ∈ expiryOf x (g.stateBefore e) := by
  unfold LineEngine.dueSpan
  repeat' split
  all_goals simp_all

/-! ### The records of the two lines at an expiry (R143) -/

/-- Two lists interleaved hold the records of both, each list in its own order; of the state a free value is used up. -/
theorem interleave_spec (as bs : List EventRecord) (s : State) :
    let r := interleave as bs s
    r.2 = { s with freeCount := r.2.freeCount } ∧ r.1.Perm (as ++ bs)
      ∧ (∀ p : EventRecord → Bool, (∀ b ∈ bs, p b = false) → r.1.filter p = as.filter p)
      ∧ ∀ p : EventRecord → Bool, (∀ a ∈ as, p a = false) → r.1.filter p = bs.filter p := by
  induction as generalizing bs s with
  | nil =>
    refine ⟨Eq.refl _, .refl _, fun p h => ?_, fun _ _ => Eq.refl _⟩
    exact List.filter_eq_nil_iff.2 fun b hb => by simp [h b hb]
  | cons a rest ih =>
    obtain ⟨h1, h2, h3, h4⟩ := ih (bs.drop (s.takeFree.1 % (bs.length + 1))) s.takeFree.2
    unfold interleave
    dsimp only at h1 h2 h3 h4 ⊢
    refine ⟨by rw [h1]; exact Eq.refl _, ?_, fun p hp => ?_, fun p hp => ?_⟩
    · refine ((h2.cons a).append_left _).trans (List.perm_middle.trans (.cons a ?_))
      rw [← List.append_assoc]
      refine (List.perm_append_comm.append_right _).trans ?_
      rw [List.append_assoc, List.take_append_drop]
      exact .refl _
    · rw [List.filter_append, List.filter_cons, h3 p fun b hb => hp b (List.mem_of_mem_drop hb),
        List.filter_eq_nil_iff.2 fun b hb => by simp [hp b (List.mem_of_mem_take hb)], List.filter_cons, List.nil_append]
    · rw [List.filter_append, List.filter_cons, h4 p fun b hb => hp b (List.mem_cons_of_mem _ hb),
        hp a (List.mem_cons_self ..), if_neg Bool.false_ne_true, ← List.filter_append, List.take_append_drop]

end Sys2Proof.Machine
end

