-- ==== Sys2Proof/Laws/Tables.lean ====
section
/-! SUPPORT. What the shared operations can do to the Station Table and to the sweep lists: no station is defined, dropped
or moved, a lawful failure count stays lawful, and no slot comes into a list. One lemma per operation. -/

namespace Sys2Proof.Machine

/-- The slots of a line's live and shadow list. -/
def State.listed (s : State) (x : Line) : List Slot := (s.sweepAt x).live ++ (s.sweepAt x).shadow.getD []

/-- `s'` has the same stations defined with the same lines and addresses, keeps lawful failure counts lawful, and lists
no slot that `s` does not list. -/
structure Tabled (s s' : State) : Prop where
  same : ∀ i, (s'.stationAt i).defined = (s.stationAt i).defined ∧ (s'.stationAt i).line = (s.stationAt i).line
    ∧ (s'.stationAt i).address = (s.stationAt i).address
  counts : ∀ i, (s.stationAt i).countLawful → (s'.stationAt i).countLawful
  lists : ∀ x, ∀ slot ∈ s'.listed x, slot ∈ s.listed x

theorem Tabled.rfl {s : State} : Tabled s s := ⟨fun _ => ⟨Eq.refl _, Eq.refl _, Eq.refl _⟩, fun _ h => h, fun _ _ h => h⟩

theorem Tabled.trans {s t u : State} (h : Tabled s t) (h' : Tabled t u) : Tabled s u where
  same i :=
    ⟨(h'.same i).1.trans (h.same i).1, (h'.same i).2.1.trans (h.same i).2.1, (h'.same i).2.2.trans (h.same i).2.2⟩
  counts i hi := h'.counts i (h.counts i hi)
  lists x slot hs := h.lists x slot (h'.lists x slot hs)

/-- An update that leaves the Station Table and the Sweep Controllers. -/
theorem Tabled.elsewhere {s s' : State} (hs : s'.stations = s.stations) (hw : s'.sweep = s.sweep) : Tabled s s' where
  same i := by
    have h : s'.stationAt i = s.stationAt i := by unfold State.stationAt; rw [hs]
    rw [h]; exact ⟨Eq.refl _, Eq.refl _, Eq.refl _⟩
  counts i hi := by
    have h : s'.stationAt i = s.stationAt i := by unfold State.stationAt; rw [hs]
    rw [h]; exact hi
  lists x slot h := by
    have hx : s'.listed x = s.listed x := by unfold State.listed State.sweepAt; rw [hw]
    rw [hx] at h; exact h

/-- A record replaced by one with the same definition and a lawful count. -/
theorem Tabled.setStation (i : Fin 32) (r : Station) (s : State)
    (hd : r.defined = (s.stationAt i).defined) (hl : r.line = (s.stationAt i).line)
    (ha : r.address = (s.stationAt i).address)
    (hc : (s.stationAt i).countLawful → r.countLawful) : Tabled s (s.setStation i r) where
  same j := by
    rw [stationAt_setStation]
    split
    · next h => rw [h]; exact ⟨hd, hl, ha⟩
    · exact ⟨Eq.refl _, Eq.refl _, Eq.refl _⟩
  counts j hj := by
    rw [stationAt_setStation]
    split
    · next h => rw [h] at hj; exact hc hj
    · exact hj
  lists _ _ h := h

/-- A Sweep Controller changed without a new slot in its lists. -/
theorem Tabled.modSweep (x : Line) (f : SweepController → SweepController) (s : State)
    (h : ∀ slot ∈ (f (s.sweepAt x)).live ++ (f (s.sweepAt x)).shadow.getD [],
      slot ∈ (s.sweepAt x).live ++ (s.sweepAt x).shadow.getD []) : Tabled s (s.modSweep x f) where
  same _ := ⟨Eq.refl _, Eq.refl _, Eq.refl _⟩
  counts _ hi := hi
  lists y slot hs := by
    unfold State.listed at hs ⊢
    rw [sweepAt_modSweep] at hs
    split at hs
    · next heq => rw [heq]; exact h slot hs
    · exact hs

/-- A Sweep Controller changed but for its lists. -/
theorem Tabled.modSweep' (x : Line) (f : SweepController → SweepController) (s : State)
    (hl : (f (s.sweepAt x)).live = (s.sweepAt x).live) (hw : (f (s.sweepAt x)).shadow = (s.sweepAt x).shadow) :
    Tabled s (s.modSweep x f) :=
  .modSweep x f s (by rw [hl, hw]; exact fun _ h => h)

theorem post_tabled (r : EventRecord) (s : State) : Tabled s (post r s) := .elsewhere (Eq.refl _) (Eq.refl _)

theorem setPending_tabled (src : Source) (s : State) : Tabled s (setPending src s) := .elsewhere (Eq.refl _) (Eq.refl _)

theorem postAll_tabled : ∀ (rs : List EventRecord) (s : State), Tabled s (postAll rs s)
  | [], _ => .rfl
  | r :: rest, s => (post_tabled r s).trans (postAll_tabled rest _)

theorem modEngine_tabled (x : Line) (f : LineEngine → LineEngine) (s : State) : Tabled s (s.modEngine x f) :=
  .elsewhere (Eq.refl _) (Eq.refl _)

theorem enterGuard_tabled (x : Line) (s : State) : Tabled s (enterGuard x s) := modEngine_tabled x _ s

theorem finish_tabled {s : State} (c : Completion) (h : Tabled s c.state) : Tabled s (finish c) :=
  h.trans (.elsewhere (Eq.refl _) (Eq.refl _))

/-! ### The Data Store and the reports -/

theorem swapCommit_tabled (i : Fin 32) (s : State) : Tabled s (swapCommit i s) := by
  unfold swapCommit
  have h : Tabled s (s.setCallPair i (s.callPairAt i).swap) := .elsewhere (Eq.refl _) (Eq.refl _)
  exact h.trans (.setStation i _ _ (Eq.refl _) (Eq.refl _) (Eq.refl _) id)

theorem swapCommits_tabled : ∀ (is : List (Fin 32)) (s : State), Tabled s (swapCommits is s)
  | [], _ => .rfl
  | i :: rest, s => (swapCommit_tabled i s).trans (swapCommits_tabled rest _)

theorem takeCommit_tabled (i : Fin 32) (s : State) : Tabled s (takeCommit i s) := by
  unfold takeCommit
  split
  · exact (swapCommit_tabled i s).trans (post_tabled _ _)
  · exact .rfl

theorem publishAnswer_tabled (i : Fin 32) (s : State) : Tabled s (publishAnswer i s) := by
  unfold publishAnswer
  have h : Tabled s (s.setAnswerPair i ((s.answerPairAt i).publish ((s.stationAt i).answerSequence + 1))) :=
    .elsewhere (Eq.refl _) (Eq.refl _)
  exact h.trans (.setStation i _ _ (Eq.refl _) (Eq.refl _) (Eq.refl _) id)

theorem storeAnswer_tabled (i : Fin 32) (b : ReceiveBuffer) (stamp : Word) (s : State) :
    Tabled s (storeAnswer i b stamp s) := by
  unfold storeAnswer
  dsimp only
  have h : Tabled s (s.setAnswerPair i ((s.answerPairAt i).withSpare (storedAnswer (s.answerPairAt i).spare b stamp))) :=
    .elsewhere (Eq.refl _) (Eq.refl _)
  split
  · split
    · exact h.trans (.setStation i _ _ (Eq.refl _) (Eq.refl _) (Eq.refl _) id)
    · exact h.trans (.setStation i _ _ (Eq.refl _) (Eq.refl _) (Eq.refl _) id)
  · exact h.trans (publishAnswer_tabled i _)

theorem closeOpenView_tabled (s : State) : Tabled s (closeOpenView s) := by
  unfold closeOpenView
  dsimp only
  split
  · split
    · exact (publishAnswer_tabled _ s).trans (.elsewhere (Eq.refl _) (Eq.refl _))
    · exact .elsewhere (Eq.refl _) (Eq.refl _)
  · exact .elsewhere (Eq.refl _) (Eq.refl _)

/-- The health machine leaves a record's definition (R5 to R8). -/
theorem recordAfterReport_same (r : Station) (o : ExchangeResult) (b : Byte) :
    (recordAfterReport r o b).defined = r.defined ∧ (recordAfterReport r o b).line = r.line
      ∧ (recordAfterReport r o b).address = r.address := by
  unfold recordAfterReport healthAfter
  cases classOf o <;> cases r.health <;> simp <;> split <;> simp

/-- The law of the failure count holds through a report (R6 to R8). -/
theorem recordAfterReport_counts (r : Station) (o : ExchangeResult) (b : Byte) (h : r.countLawful) :
    (recordAfterReport r o b).countLawful := by
  obtain ⟨d, l, a, f, rl, ol, p, hl, fc, pc, lo, ls, al, sq, ov, cp, pp⟩ := r
  unfold Station.countLawful at h ⊢
  unfold recordAfterReport healthAfter
  cases classOf o <;> cases hl <;> simp at h ⊢ <;> first | omega | (split <;> simp <;> omega)

theorem stationReport_tabled (i : Fin 32) (o : ExchangeResult) (b : Byte) (s : State) :
    Tabled s (stationReport i o b s) := by
  unfold stationReport
  refine .trans (.setStation i _ s ?_ ?_ ?_ ?_) (postAll_tabled _ _)
  · exact (recordAfterReport_same _ o b).1
  · exact (recordAfterReport_same _ o b).2.1
  · exact (recordAfterReport_same _ o b).2.2
  · exact recordAfterReport_counts _ o b

theorem finishDescriptor_tabled (d : Fin 16) (o : ExchangeResult) (n : Nat) (a : RequestAnswer) (s : State) :
    Tabled s (finishDescriptor d o n a s) :=
  .elsewhere (Eq.refl _) (Eq.refl _)

theorem completeAllQueued_tabled (o : ExchangeResult) :
    ∀ (ds : List (Fin 16)) (s : State), Tabled s (completeAllQueued o ds s)
  | [], _ => .rfl
  | d :: rest, s => (finishDescriptor_tabled d o 0 _ s).trans (completeAllQueued_tabled o rest _)

/-! ### The exchange -/

theorem closeAttempt_tabled (x : Line) (o : ExchangeResult) (s : State) : Tabled s (closeAttempt x o s) :=
  .elsewhere (Eq.refl _) (Eq.refl _)

theorem beginCalling_tabled (x : Line) (s : State) : Tabled s (beginCalling x s) := by
  unfold beginCalling
  split
  · exact modEngine_tabled x _ s
  · exact .rfl

theorem startSlot_tabled (x : Line) (i : Fin 32) (k : ExchangeKind) (s : State) : Tabled s (startSlot x i k s) :=
  (takeCommit_tabled i s).trans (.elsewhere (Eq.refl _) (Eq.refl _))

theorem handOver_tabled (x : Line) (o : ExchangeResult) (e : Exchange) (s : State) : Tabled s (handOver x o e s) := by
  unfold handOver
  refine .trans (.trans (t := handReport o e (s.engineAt x).buffer.status s) ?_ ?_) (modEngine_tabled x _ _)
  · unfold handReport
    split
    · exact stationReport_tabled _ o _ s
    · exact .rfl
  · unfold handAnswer
    split
    · split
      · exact storeAnswer_tabled _ _ _ _
      · exact .rfl
    · split
      · exact storeAnswer_tabled _ _ _ _
      · exact .rfl
    · exact .elsewhere (Eq.refl _) (Eq.refl _)
    · exact .elsewhere (Eq.refl _) (Eq.refl _)
    · exact .rfl

theorem enterQuietly_tabled (x : Line) (t : EntryTarget) (s : State) : Tabled s (enterQuietly x t s) := by
  have h := ((modEngine_tabled x (fun g => g.entered t) s).trans
    (.modSweep' x SweepController.abandoned _ (Eq.refl _) (Eq.refl _))).trans
      (swapCommits_tabled (pendingCommits s x) _)
  cases t
  · exact h
  · exact h.trans (setPending_tabled _ _)

theorem enterLine_tabled (x : Line) (t : EntryTarget) (s : State) : Tabled s (enterLine x t s) :=
  (enterQuietly_tabled x t s).trans (postAll_tabled _ _)

theorem endInto_tabled (x : Line) (o : ExchangeResult) (t : EntryTarget) (s : State) : Tabled s (endInto x o t s) := by
  unfold endInto
  split
  · exact (handOver_tabled x o _ s).trans (enterLine_tabled x t _)
  · exact enterLine_tabled x t s

theorem endQuietly_tabled (x : Line) (s : State) : Tabled s (endQuietly x s) := by
  unfold endQuietly
  split
  · exact modEngine_tabled x _ s
  · split
    · exact .rfl
    · exact (modEngine_tabled x _ s).trans (.modSweep' x _ _ (Eq.refl _) (Eq.refl _))

/-! ### The Sweep Controller -/

theorem scanSlots_tabled (x : Line) : ∀ (slots : List Slot) (s : State), Tabled s (scanSlots x slots s).1
  | [], s => by
    unfold scanSlots
    exact Tabled.modSweep' x (fun c => { c with pointer := 49 }) s (Eq.refl _) (Eq.refl _)
  | slot :: rest, s => by
    have hc : ∀ n, Tabled (s.modSweep x SweepController.skipSlot) ((s.modSweep x SweepController.skipSlot).setStation
        slot.station { s.stationAt slot.station with probeCountdown := n }) :=
      fun n => .setStation _ _ _ (Eq.refl _) (Eq.refl _) (Eq.refl _) id
    have hr : ∀ n, Tabled (s.modSweep x SweepController.runSlot) ((s.modSweep x SweepController.runSlot).setStation
        slot.station { s.stationAt slot.station with probeCountdown := n }) :=
      fun n => .setStation _ _ _ (Eq.refl _) (Eq.refl _) (Eq.refl _) id
    unfold scanSlots
    split
    · dsimp only
      split
      · exact (Tabled.modSweep' x _ s (Eq.refl _) (Eq.refl _)).trans (scanSlots_tabled x rest _)
      · exact ((Tabled.modSweep' x _ s (Eq.refl _) (Eq.refl _)).trans (hc _)).trans (scanSlots_tabled x rest _)
      · exact (Tabled.modSweep' x _ s (Eq.refl _) (Eq.refl _)).trans (hr _)
      · exact .modSweep' x _ s (Eq.refl _) (Eq.refl _)
    · exact (Tabled.modSweep' x _ s (Eq.refl _) (Eq.refl _)).trans (scanSlots_tabled x rest _)

theorem takeHead_tabled (x : Line) (u : Urgency) (s : State) : Tabled s (takeHead x u s).1 := by
  unfold takeHead
  split
  · exact .rfl
  · exact .elsewhere (by simp) (by simp)

theorem startSweep_tabled (x : Line) (s : State) : Tabled s (startSweep x s) := by
  refine .modSweep x _ s ?_
  unfold SweepController.started
  cases h : (s.sweepAt x).shadow <;> simp
  exact fun _ => Or.inr

theorem endSweep_tabled (x : Line) (s : State) : Tabled s (endSweep x s) := by
  unfold endSweep
  split
  · exact (post_tabled _ s).trans (.modSweep' x _ _ (Eq.refl _) (Eq.refl _))
  · exact .modSweep' x _ _ (Eq.refl _) (Eq.refl _)

theorem sweepPick_tabled (x : Line) (first : Bool) (s : State) : Tabled s (sweepPick x first s).1 := by
  unfold sweepPick
  dsimp only
  split
  · exact (Tabled.modSweep' x _ s (Eq.refl _) (Eq.refl _)).trans (takeHead_tabled x _ _)
  · exact scanSlots_tabled x _ s

theorem takeNormal_tabled (x : Line) (s : State) : Tabled s (takeNormal x s).1 := by
  unfold takeNormal
  split
  · exact (Tabled.modSweep' x _ s (Eq.refl _) (Eq.refl _)).trans (takeHead_tabled x _ _)
  · exact takeHead_tabled x _ s

theorem serviceAfterEmptySweep_tabled (x : Line) (s : State) : Tabled s (serviceAfterEmptySweep x s).1 := by
  unfold serviceAfterEmptySweep
  split
  · exact takeHead_tabled x _ s
  · split
    · exact takeNormal_tabled x s
    · split
      · exact enterGuard_tabled x s
      · exact .rfl

theorem freshSweep_tabled (x : Line) (s : State) : Tabled s (freshSweep x s).1 := by
  have h := (startSweep_tabled x s).trans (sweepPick_tabled x true (startSweep x s))
  unfold freshSweep
  split
  · next heq => rw [heq] at h; exact h
  · next heq =>
    rw [heq] at h
    exact h.trans ((endSweep_tabled x _).trans (serviceAfterEmptySweep_tabled x _))

theorem service_tabled (x : Line) (s : State) : Tabled s (service x s).1 := by
  unfold service
  dsimp only
  split
  · exact freshSweep_tabled x s
  · split
    · exact takeHead_tabled x _ s
    · split
      · exact takeNormal_tabled x s
      · split
        · split
          · exact freshSweep_tabled x s
          · exact enterGuard_tabled x s
        · exact .rfl

theorem pick_tabled (x : Line) (s : State) : Tabled s (pick x s).1 := by
  have h := sweepPick_tabled x false s
  unfold pick
  split
  · split
    · next heq => rw [heq] at h; exact h
    · next heq =>
      rw [heq] at h
      exact h.trans ((endSweep_tabled x _).trans (service_tabled x _))
  · exact service_tabled x s
  · exact .rfl

theorem giveWork_tabled {x : Line} {s : State} {p : State × Option Work} (h : Tabled s p.1) :
    Tabled s (giveWork x p) := by
  unfold giveWork
  split
  · exact h
  · dsimp only
    have hm : Tabled s (if (p.1.engineAt x).config.mode = .repeating then
        p.1.modSweep x fun c => { c with exchangeTaken := true } else p.1) := by
      split
      · exact h.trans (.modSweep' x _ _ (Eq.refl _) (Eq.refl _))
      · exact h
    split
    · exact hm.trans (startSlot_tabled x _ _ _)
    · exact hm.trans (.elsewhere (Eq.refl _) (Eq.refl _))

theorem pickAndGive_tabled (x : Line) (s : State) : Tabled s (pickAndGive x s) := giveWork_tabled (pick_tabled x s)

theorem sweepAndGive_tabled (x : Line) (s : State) : Tabled s (sweepAndGive x s) := giveWork_tabled (freshSweep_tabled x s)

theorem cycleStart_tabled (x : Line) (k : CycleStartKind) (s : State) : Tabled s (cycleStart x k s) := by
  unfold cycleStart
  split
  · exact .rfl
  · exact sweepAndGive_tabled x s
  · exact .modSweep' x _ s (Eq.refl _) (Eq.refl _)
  · exact ((Tabled.modSweep' x (fun c => { c with pendingStart := true }) s (Eq.refl _) (Eq.refl _)).trans
      (modEngine_tabled x _ _)).trans (post_tabled _ _)
  · exact .elsewhere (Eq.refl _) (Eq.refl _)

theorem goOn_tabled (x : Line) (k : ExchangeKind) (s : State) : Tabled s (goOn x k s) := by
  unfold goOn
  dsimp only
  split
  · split
    · exact .elsewhere (Eq.refl _) (Eq.refl _)
    · exact enterLine_tabled x _ s
  · split
    · exact pickAndGive_tabled x s
    · exact enterLine_tabled x _ s
    · exact .rfl
    · exact .rfl

theorem beginWaiting_tabled (x : Line) (e : Exchange) (s : State) : Tabled s (beginWaiting x e s) := by
  unfold beginWaiting
  split <;> exact modEngine_tabled x _ s

theorem guardExpiry_tabled (x : Line) (s : State) : Tabled s (guardExpiry x s) := by
  unfold guardExpiry
  dsimp only
  split
  · split
    · exact beginWaiting_tabled x _ s
    · split
      · exact beginCalling_tabled x s
      · exact (handOver_tabled x _ _ s).trans (goOn_tabled x _ _)
  · split
    · exact (modEngine_tabled x _ s).trans (sweepAndGive_tabled x _)
    · exact modEngine_tabled x _ s

/-! ### The supervision expiry -/

theorem expiryEffect_tabled (x : Line) (s : State) : Tabled s (expiryEffect x s) := by
  unfold expiryEffect
  split
  · exact .rfl
  · exact modEngine_tabled x _ s
  · exact .elsewhere (Eq.refl _) (Eq.refl _)
  · exact enterQuietly_tabled x _ s

theorem interleave_tabled : ∀ (rs rs' : List EventRecord) (s : State), Tabled s (interleave rs rs' s).2
  | [], _, _ => .rfl
  | _ :: rest, _, s =>
    (Tabled.elsewhere (Eq.refl _) (Eq.refl _) : Tabled s s.takeFree.2).trans (interleave_tabled rest _ _)

theorem supervisionExpiry_tabled (s : State) : Tabled s (supervisionExpiry s) := by
  have h : ∀ u, Tabled u (expiryOnLines u) := fun u => by
    unfold expiryOnLines
    exact (((expiryEffect_tabled .a u).trans (expiryEffect_tabled .b _)).trans (interleave_tabled _ _ _)).trans
      (postAll_tabled _ _)
  unfold supervisionExpiry
  split
  · dsimp only
    split
    · refine .trans ?_ (h _)
      exact .elsewhere (Eq.refl _) (Eq.refl _)
    · exact .elsewhere (Eq.refl _) (Eq.refl _)
  · exact .rfl

end Sys2Proof.Machine
end

