-- ==== Sys2Proof/Tests/Slice0.lean ====
section
/-! SUPPORT. Tests: the smoke test of well-formedness, the spec's worked values, one step of each kind of command, and for
the obligations with hypotheses a witness that meets them. -/

namespace Sys2Proof.Tests

open Sys2Proof Sys2Proof.Machine

/-! ### Well-formedness -/

theorem test_high_lane_of_int_svc_refused : (Instr.intSvcWrite .high 0x0100).wellFormed = false := by decide

theorem test_high_lane_of_view_offset_refused : (Instr.viewOffsetWrite .high 0x0100).wellFormed = false := by decide

theorem test_low_lane_of_int_status_refused : (Instr.intStatusRead .low).wellFormed = false := by decide

theorem test_register_write_to_cmd_refused : (Instr.registerWrite 0x01 .word 0x0010).wellFormed = false := by decide

theorem test_register_write_to_view_offset_by_lane :
    (Instr.registerWrite 0x09 .low 0).wellFormed = false ∧ (Instr.registerWrite 0x09 .high 0).wellFormed = true := by
  decide

theorem test_register_write_to_param_accepted : (Instr.registerWrite 0x02 .word 0).wellFormed = true := by decide

/-! ### Worked values of the manual -/

/-- The check value of R80: 29B1h over the bytes 31h to 39h. -/
theorem test_check_of_digits : frameCheck [0x31, 0x32, 0x33, 0x34, 0x35, 0x36, 0x37, 0x38, 0x39] = 0x29B1 := by
  decide +kernel

/-- The call frame of the worked example of chapter 12: 11h, 00h, 00h with check B8CFh. -/
theorem test_check_of_example_call : frameCheck [0x11, 0x00, 0x00] = 0xB8CF := by decide +kernel

/-- A character's levels in order of time: start bit, d0 first, mark bit, stop bit (R72). -/
theorem test_levels_of_address_character :
    ({ data := 0x11, mark := true } : Character).levels =
      [false, true, false, false, false, true, false, false, false, true, true] := by
  decide

/-! ### States to test on -/

/-- A taken command with these parameters. -/
def taken (code : Byte) (p0 p1 p2 p3 : Word) : TakenCommand :=
  { code := makeWord code 0, param0 := p0, param1 := p1, param2 := p2, param3 := p3 }

/-- The state with this command in progress. -/
def ask (p : TakenCommand) (s : State) : State := { s with command := { s.command with state := .busy, taken := some p } }

/-- Station `i` defined on a line with an address and a health. -/
def stationed (i : Fin 32) (x : Line) (address : Byte) (health : Health) (s : State) : State :=
  s.setStation i
    { Station.reset with defined := true, line := x, address := some address, health := health, retryLimit := 1 }

/-- A line configured in a mode, in a control state, its sweep BETWEEN. -/
def served (x : Line) (mode : SweepMode) (control : LineState) (s : State) : State :=
  (s.modEngine x fun g =>
      { g with configured := true, control := control, config := { g.config with mode := mode } }).modSweep x
    fun c => { c with state := .between }

/-- An exchange with station 0 at address 11h. -/
def called : Exchange :=
  { kind := .cyclic, station := some 0, descriptor := none, address := 0x11, functionCode := 0, image := [],
    answerMax := some 32, busyRetry := false, allowed := 2, made := 1, outcome := none }

/-- Line A RUNNING with an exchange in flight in an exchange state. -/
def flying (state : ExchangeState) (e : Exchange) (s : State) : State :=
  (served .a .single .running s).modEngine .a fun g =>
    { g with exState := state, exchange := some e, driverEnable := decide (state = .calling),
             sending := if state = .calling then some { frame := e.callFrame, elapsed := 0 } else none }

/-- Line A in an exchange state with a character being received and a receive buffer. -/
def hearing (state : ExchangeState) (b : ReceiveBuffer) : State :=
  ((flying state called State.reset).setRx .a .low).modEngine .a fun g =>
    { g with reception := some { elapsed := 10, lastEdge := 0 }, buffer := b }

/-- The state a command leads to. -/
def after (c : Instr) (s : State) : State :=
  match exec c s with
  | .next t => t
  | .fault _ => s
  | .refused _ => s

/-- An open view. -/
def viewing (v : OpenView) (offset : Byte) (s : State) : State :=
  { s with port := { s.port with view := some v, offset := offset } }

/-- A descriptor in a state. -/
def described (d : Fin 16) (state : DescriptorState) (s : State) : State :=
  s.setDescriptor d { Descriptor.reset with state := state, target := some (.station 0), tag := 0x5A }

/-- A record to fill the Event Queue with. -/
def someRecord : EventRecord :=
  { kind := .lineState, line := some .a, index := none, tag := none, code := some 0, aux := some 0, stamp := 0 }

/-- An Event Queue with `n` records and a lost count. -/
def queued (n lost : Nat) (s : State) : State := { s with events := { records := List.replicate n someRecord, lost := lost } }

/-! ### One step each (expected values from the rules named) -/

/-- R15: the record of DEFINE_STATION, enable yes. -/
theorem test_define_station :
    let t := after .defineStation (ask (taken 0x10 0x0003 0x0711 0x0502 0x0104) State.reset)
    (t.stationAt 3).health = .probing ∧ (t.stationAt 3).functionCode = 0x07 ∧ (t.stationAt 3).retryLimit = 2
      ∧ (t.stationAt 3).offlineLimit = 5 ∧ t.command.result0 = 0 ∧ t.arbiter.pendingCommand = true := by
  decide

/-- R15 check 3: an address held on the line. -/
theorem test_duplicate_address :
    (after .defineStation
      (ask (taken 0x10 0x0003 0x0711 0x0502 0x0104) (stationed 9 .a 0x11 .online State.reset))).command.result0 = 9
    ∧ (after .defineStation
      (ask (taken 0x10 0x0003 0x0711 0x0502 0x0104) (stationed 9 .a 0x11 .online State.reset))).command.result1 = 9 := by
  decide

/-- R16: a dropped station is undefined, with STATION_STATE from ONLINE to DISABLED. -/
theorem test_drop_station :
    let t := after .dropStation (ask (taken 0x11 0x0003 0 0 0) (stationed 3 .a 0x11 .online State.reset))
    (t.stationAt 3).defined = false ∧ t.events.records.map (fun r => (r.code, r.aux)) = [(some 0x00, some 0x02)] := by
  decide

/-- R17. -/
theorem test_enable_station :
    let t := after .enableStation (ask (taken 0x12 0x0003 0 0 0) (stationed 3 .a 0x11 .disabled State.reset))
    (t.stationAt 3).health = .probing ∧ t.events.records.length = 1 := by
  decide

/-- R18: the queued request of the station completes STATION_DISABLED. -/
theorem test_disable_station :
    let s := (described 5 .queued (stationed 0 .a 0x11 .online State.reset)).setFifo .a .normal [5]
    let t := after .disableStation (ask (taken 0x13 0 0 0 0) s)
    (t.descriptorAt 5).result = some .stationDisabled ∧ t.fifo .a .normal = [] ∧ t.command.result1 = 1
      ∧ t.events.records.length = 2 := by
  decide

/-- R21: a SUSPECT station at the new limit goes OFFLINE. -/
theorem test_set_station_limits :
    let s := (stationed 0 .a 0x11 .suspect State.reset)
    let s := s.setStation 0 { s.stationAt 0 with failureCount := 2, offlineLimit := 5 }
    let t := after .setStationLimits (ask (taken 0x14 0 0x0000 0x0002 0x0007) s)
    (t.stationAt 0).health = .offline ∧ (t.stationAt 0).probeCountdown = 7 ∧ t.events.records.length = 1 := by
  decide

/-- R27: the first slot with a fault is named. -/
theorem test_load_sweep_names_the_fault :
    let s := stationed 0 .a 0x11 .online State.reset
    let s := s.setBuild .a { length := 2, slotBytes := BuildArea.reset.slotBytes.set 1 1 }
    (after .loadSweep (ask (taken 0x20 0 0 0 0) s)).command.result0 = 2
      ∧ (after .loadSweep (ask (taken 0x20 0 0 0 0) s)).command.result1 = 2 := by
  decide

/-- R130: SET_LINE of line B in REPEAT mode. -/
theorem test_set_line :
    let t := after .setLine (ask (taken 0x21 0x1503 0x3016 0x1601 0x0064) State.reset)
    (t.engineAt .b).configured = true ∧ (t.engineAt .b).config.mode = .repeating
      ∧ (t.engineAt .b).config.safeCallEnable = true ∧ (t.engineAt .b).config.divisor = 3
      ∧ (t.sweepAt .b).counter = 100 := by
  decide

/-- R43: BAD_PARAM with position 2 for 99. -/
theorem test_set_period_range : (after .setPeriod (ask (taken 0x22 0 99 0 0) State.reset)).command.result1 = 2 := by decide

/-- R131: a started SINGLE line with an empty list ends its sweep at once and stands in GUARD. -/
theorem test_start_line :
    let t := after .startLine (ask (taken 0x23 0 0 0 0) (served .a .single .stopped State.reset))
    (t.engineAt .a).control = .running ∧ (t.engineAt .a).exState = .guarding ∧ (t.sweepAt .a).state = .between
      ∧ (t.sweepAt .a).count = 0 := by
  decide

/-- R132, R137: with nothing in flight the line is STOPPED at once. -/
theorem test_stop_line :
    let t := after .stopLine (ask (taken 0x24 0 0 0 0) (served .a .single .running State.reset))
    (t.engineAt .a).control = .stopped ∧ t.events.records.map (fun r => r.kind) = [.lineState] := by
  decide

/-- R134: in CALLING the abort waits for the character's end, which then ends the exchange ABORTED. -/
theorem test_abort_line :
    let s := after .abortLine (ask (taken 0x25 0 0 0 0) (flying .calling called State.reset))
    (s.engineAt .a).abortPending = true ∧ (s.engineAt .a).control = .stopping
      ∧ ((after (.abortTailEnd .a) s).engineAt .a).control = .stopped
      ∧ ((after (.abortTailEnd .a) s).stationAt 0).lastOutcome = some .aborted := by
  decide

/-- R45: SWEEP_NOW during a sweep is deferred. -/
theorem test_sweep_now :
    let s := (served .a .single .running State.reset).modSweep .a fun c => { c with state := .sweeping }
    let t := after .sweepNow (ask (taken 0x26 0 0 0 0) s)
    t.command.result1 = 1 ∧ (t.sweepAt .a).pendingStart = true ∧ (t.engineAt .a).deferredOverruns = 1 := by
  decide

/-- R113: the second entry of a FIFO. -/
theorem test_post_request :
    let s := (stationed 0 .a 0x11 .online State.reset).setFifo .a .urgent [7]
    let t := after .postRequest (ask (taken 0x30 0x0002 0x0142 0x2033 0) s)
    t.fifo .a .urgent = [7, 2] ∧ t.command.result1 = 2 ∧ (t.descriptorAt 2).tag = 0x33
      ∧ (t.descriptorAt 2).answerMax = 32 := by
  decide

/-- R121: a cancelled QUEUED descriptor leaves its FIFO. -/
theorem test_cancel_request :
    let s := (described 2 .queued State.reset).setFifo .a .normal [7, 2, 9]
    let t := after .cancelRequest (ask (taken 0x31 2 0 0 0) s)
    t.fifo .a .normal = [7, 9] ∧ (t.descriptorAt 2).result = some .cancelled := by
  decide

/-- R124: BOTH takes the urgent FIFO first. -/
theorem test_flush_requests :
    let s := (((described 2 .queued (described 3 .queued State.reset)).setFifo .a .normal [2]).setFifo .a .urgent [3])
    let t := after .flushRequests (ask (taken 0x32 0x0300 0 0 0) s)
    t.events.records.map (fun r => r.index) = [some 3, some 2] ∧ t.command.result1 = 2 := by
  decide

/-- R125. -/
theorem test_collect_request :
    let t := after .collectRequest (ask (taken 0x33 2 0 0 0) (described 2 .done State.reset))
    (t.descriptorAt 2).state = .free ∧ (t.descriptorAt 2).tag = 0x5A := by
  decide

/-- R93: on a RUNNING line a commit waits; R93: the start of the exchange takes it. -/
theorem test_commit_call :
    let s := served .a .single .running (stationed 0 .a 0x11 .online State.reset)
    let t := after .commitCall (ask (taken 0x40 0 0 0 0) s)
    (t.stationAt 0).commitPending = true ∧ t.command.result0 = 1
      ∧ ((startSlot .a 0 .cyclic t).stationAt 0).commitPending = false := by
  decide

/-- R110, R173: REQ_CALL reserves a FREE descriptor, RESULT1 is the size; R174. -/
theorem test_open_and_close_view :
    let t := after .openView (ask (taken 0x41 0x0204 0 0 0) State.reset)
    (t.descriptorAt 2).state = .opened ∧ t.command.result1 = 33 ∧ t.port.view = some (.requestCall 2)
      ∧ (after .closeView (ask (taken 0x42 0 0 0 0) t)).port.view = none := by
  decide

/-- R141 and R142. -/
theorem test_set_supervision_and_refresh :
    let t := after .setSupervision (ask (taken 0x50 7 0 0 0) State.reset)
    t.supervision.state = .armed ∧ t.supervision.countdown = 7
      ∧ (after (.supvRefresh .low 0)
          { t with supervision := { t.supervision with countdown := 1 } }).supervision.countdown = 7 := by
  decide

/-- R186: after SOFT_RESET the command state is DONE and COMMAND is not pending. -/
theorem test_soft_reset :
    let t := after .softReset (ask (taken 0x5F 0 0 0 0) (queued 3 0 (stationed 0 .a 0x11 .online State.reset)))
    t.command.state = .done ∧ t.arbiter.pendingCommand = false ∧ t.events.records = []
      ∧ (t.stationAt 0).defined = false := by
  decide

/-- R184: a code that is none of the 21. -/
theorem test_unknown_command :
    (after .unknownCommand (ask (taken 0x99 0 0 0 0) State.reset)).command.result0 = 0x0A := by
  decide

/-- R169, R180, R181: a write of the high byte starts the code last written; a write while BUSY collides. -/
theorem test_command_take_and_collision :
    let s := { State.reset with command := { CommandEngine.reset with cmd := 0x0042 } }
    let t := after (.commandTake .high 0xAB00) s
    t.command.state = .busy ∧ t.command.taken.map (fun p => p.code) = some 0xAB42
      ∧ (after (.commandCollision .word 0x0010) t).port.collision = true
      ∧ (after (.commandCollision .word 0x0010) t).command.taken = t.command.taken := by
  decide

/-- R153: the removal from a full queue with losses appends LOST. -/
theorem test_evt_advance_appends_lost :
    let t := after (.evtAdvance .low 0) (queued 32 7 State.reset)
    t.events.records.length = 32 ∧ t.events.lost = 0
      ∧ (t.events.records.getLast?.map fun r => (r.kind, r.aux)) = some (.lost, some 7) := by
  decide

/-- R161, R163: of two sources at one level the earlier in the chain wins; an end of service returns. -/
theorem test_claim_and_end_of_service :
    let a := { Arbiter.reset with levelLineA := 3, levelCommand := 3, pendingLineA := true, pendingCommand := true }
    let t := after (.intClaim .word) { State.reset with arbiter := a }
    t.port.dataOut = 0x0302 ∧ t.arbiter.service = 3 ∧ t.arbiter.stack = [0] ∧ t.arbiter.irq = false
      ∧ (after (.intEos .low 0) t).arbiter.service = 0 ∧ (after (.intEos .low 0) t).arbiter.irq = true := by
  decide

/-- R164, R165: a value above 7 sets the EOS error flag; a read of its byte shows and clears it. -/
theorem test_int_svc_and_status :
    let t := after (.intSvcWrite .word 8) State.reset
    t.arbiter.eosError = true ∧ t.arbiter.service = 0 ∧ (after (.intStatusRead .word) t).port.dataOut = 0x0100
      ∧ (after (.intStatusRead .high) t).arbiter.eosError = false := by
  decide

/-- R158, R159, R166. -/
theorem test_int_levels_and_pend :
    let t := after (.intLevelsWrite .levels1 .word 0x2005) State.reset
    t.arbiter.threshold = 32 ∧ t.arbiter.levelCommand = 5
      ∧ (after (.intLevelsWrite .levels1 .high 0x2100) t).arbiter.threshold = 32
      ∧ (after (.intPendWrite .low 0x0010)
          { t with arbiter := { t.arbiter with pendingCommand := true, pendingLineA := true } }).arbiter.pendingLineA
          = true := by
  decide

/-- R175, R176: a word write at the last byte of a call view writes one byte; it is read back there. -/
theorem test_data_port :
    let t := after (.dataWrite .word 0xBBAA) (viewing (.stationCall 4) 32 State.reset)
    (t.callPairAt 4).staged.bytes[31] = 0xAA ∧ t.port.offset = 34
      ∧ (after (.dataRead .word) (after (.viewOffsetWrite .low 32) t)).port.dataOut = 0x00AA := by
  decide

/-- R168: PARAM1 merges a byte. -/
theorem test_register_write :
    (after (.registerWrite 0x03 .high 0xAB00) State.reset).command.param1 = 0xAB00 := by
  decide

/-- R187. -/
theorem test_pin_reset :
    let t := after .pinResetRelease (after .pinResetAssert (queued 3 0 State.reset))
    t.port.ready = false ∧ t.events.records = [] ∧ (after .readyAfterReset t).port.ready = true := by
  decide

/-- R44: an edge on SYNC starts sweep 0 of a free TRIGGERED line. -/
theorem test_sync_falling_edge :
    let s := (served .a .triggered .running State.reset).modSweep .a fun c => { c with firstSweep := true }
    ((after (.syncFallingEdge .a) s).sweepAt .a).firstSweep = false
      ∧ after (.syncFallingEdge .b) s = s := by
  refine ⟨by decide, ?_⟩
  exact Eq.refl _

/-- R42: the counter reloads. -/
theorem test_cycle_timer_expiry :
    let s := (served .a .timed .running State.reset).modSweep .a fun c =>
      { c with period := 500, counter := 0, timerRunning := true, state := .sweeping }
    ((after (.cycleTimerExpiry .a) s).sweepAt .a).counter = 500
      ∧ ((after (.cycleTimerExpiry .a) s).sweepAt .a).pendingStart = true := by
  decide

/-- R53: after a call to a station AWAITING, with the answer timeout in microseconds. -/
theorem test_call_frame_sent :
    let t := after (.callFrameSent .a) (flying .calling called State.reset)
    (t.engineAt .a).exState = .awaiting ∧ (t.engineAt .a).span = some 22 ∧ (t.engineAt .a).driverEnable = false := by
  decide

/-- R54, R56: the start bit begins the answer, whose first character must echo the address. -/
theorem test_first_answer_character :
    let t := after (.startBitArrival .a) (flying .awaiting called State.reset)
    (t.engineAt .a).exState = .receiving
      ∧ ((after (.characterReceived .a 0x11 false true) t).engineAt .a).buffer.position = 1
      ∧ ((after (.characterReceived .a 0x12 false true) t).engineAt .a).exState = .draining
      ∧ ((after (.characterReceived .a 0x11 true true) t).engineAt .a).haltCause = .conflict := by
  decide

/-- R54, R59, R60. -/
theorem test_expiries :
    let s (state : ExchangeState) : State :=
      (flying state { called with outcome := some .overlength } State.reset).modEngine .a fun g => { g with span := some 0 }
    ((after (.answerTimeout .a) (s .awaiting)).engineAt .a).exchange.map (fun e => e.outcome) = some (some .noAnswer)
      ∧ ((after (.gapLimitExpiry .a) (s .receiving)).engineAt .a).exchange.map (fun e => e.outcome)
        = some (some .truncated)
      ∧ ((after (.drainSilenceEnd .a) (s .draining)).engineAt .a).exchange.map (fun e => e.outcome)
        = some (some .overlength) := by
  decide

/-- R74: at 4 µs a bit the middle sample comes 2 µs after the edge. A pin that is high again there rejects the edge, and
the timeout that ran out meanwhile, held at its own moment, is due at the sample. -/
theorem test_rejected_edge_holds_the_timeout :
    let s := (flying .awaiting called State.reset).modEngine .a fun g =>
      { g with span := some 1, config := { g.config with divisor := 3 } }
    let edge := after (.startBitArrival .a) s
    let glitch := after (.answerTimeout .a) (after (.pinReturnsHigh .a) edge)
    allDue s = [.answerTimeout .a] ∧ allDue glitch = [] ∧ (glitch.engineAt .a).exState = .receiving
      ∧ allDue (tick glitch) = [.answerTimeout .a] ∧ ((tick (tick glitch)).engineAt .a).exState = .awaiting
      ∧ ((after (.answerTimeout .a) (tick (tick glitch))).engineAt .a).exState = .guarding := by
  decide

/-- R74: a pin that is low at the middle sample validates the start bit, and the timeout has no further effect. -/
theorem test_validated_edge_ends_the_timeout :
    let s := (flying .awaiting called State.reset).modEngine .a fun g =>
      { g with span := some 1, config := { g.config with divisor := 3 } }
    let t := tick (tick (after (.startBitArrival .a) s))
    (t.engineAt .a).exState = .receiving ∧ (t.engineAt .a).edge = none ∧ (t.engineAt .a).reception ≠ none
      ∧ allDue (tick (after (.startBitArrival .a) s)) = [] ∧ after (.answerTimeout .a) t = t := by
  refine ⟨by decide, by decide, by decide, by decide, ?_⟩
  exact Eq.refl _

/-- A call answered at 4 µs a bit whose answer timeout runs out between two falling edges 1 µs apart, the pin high again
at the middle sample of the first. -/
def overtaking : State :=
  let s := (flying .awaiting called State.reset).modEngine .a fun g =>
    { g with span := some 1, config := { g.config with divisor := 3 } }
  let first := tick (after (.pinReturnsHigh .a) (after (.startBitArrival .a) s))
  after (.pinReturnsHigh .a) (after (.startBitArrival .a) first)

/-- The same call at the middle sample of the first edge. -/
def overtaken : State := tick overtaking

/-- R74: each edge has its own sample. The timeout that ran out before the second edge fell takes effect as the first is
rejected, though the second still waits; a second edge that is validated behind it is a stray character's. -/
theorem test_second_edge_does_not_hold_the_timeout :
    let landed := after (.answerTimeout .a) overtaken
    (overtaken.engineAt .a).exState = .receiving ∧ allDue overtaking = [.answerTimeout .a]
      ∧ (landed.engineAt .a).exState = .guarding ∧ (landed.engineAt .a).edge.map (fun e => (e.left, e.span)) = some (1, some 88)
      ∧ ((tick landed).engineAt .a).span = some 87 ∧ ((tick landed).engineAt .a).reception = none
      ∧ ((tick (after (.startBitArrival .a) landed)).engineAt .a).reception = some { elapsed := 2, lastEdge := 1 } := by
  decide

/-- R75, R84, R85: behind the sample of a high stop bit, at 10.5 bit times, the pin falls: the guard time waits for its
return, and the break measurement runs from that fall. Behind a low one it returns, and the guard time starts. -/
theorem test_pin_after_the_stop_bit :
    let s := (hearing .guarding ReceiveBuffer.reset).modEngine .a fun g =>
      { g with reception := some { elapsed := 11, lastEdge := 0 }, lowSpan := some 11 }
    let fallen := after (.characterReceived .a 0 false true) (after (.startBitArrival .a) s)
    let risen := after (.characterReceived .a 0 false false) (after (.pinReturnsHigh .a) s)
    fallen.pins.rx.get .a = .low ∧ (fallen.engineAt .a).span = none ∧ (fallen.engineAt .a).lowSpan = some 22
      ∧ risen.pins.rx.get .a = .high ∧ (risen.engineAt .a).span = some 22 ∧ (risen.engineAt .a).lowSpan = none := by
  decide

/-- R74, R75, R85: at 8 microseconds a bit, a start bit that bounced and fell again at 2. Behind FFh with mark bit 0 and
a low stop bit the pin has been low for two bit times, so the break limit is 20 bit times away; behind a character all
low it counts from the second edge. -/
theorem test_break_after_a_bounced_start_bit :
    let bounced := (hearing .guarding ReceiveBuffer.reset).modEngine .a fun g =>
      { g with config := { g.config with divisor := 7 }, reception := some { elapsed := 88, lastEdge := 2 },
               lowSpan := some 90 }
    ((after (.characterReceived .a 0xFF false false) bounced).engineAt .a).lowSpan = some 160
      ∧ ((after (.characterReceived .a 0 false false) bounced).engineAt .a).lowSpan = some 90 := by
  decide

/-- R65, R134: an abort that lands before the row of the last stop bit ends the exchange at that row. -/
theorem test_abort_at_the_last_stop_bit :
    let t := after (.callFrameSent .a) (after .abortLine (ask (taken 0x25 0 0 0 0) (flying .calling called State.reset)))
    (t.engineAt .a).control = .stopped ∧ (t.engineAt .a).driverEnable = false ∧ (t.engineAt .a).exchange = none
      ∧ (t.stationAt 0).lastOutcome = some .aborted := by
  decide

/-- R63: a failed attempt with one left is called again; the last one ends the exchange. -/
theorem test_guard_time_expiry :
    let s (made : Nat) : State :=
      (flying .guarding { called with made := made, outcome := some .noAnswer }
        (stationed 0 .a 0x11 .online State.reset)).modEngine .a fun g => { g with span := some 0 }
    ((after (.guardTimeExpiry .a) (s 1)).engineAt .a).exState = .calling
      ∧ ((after (.guardTimeExpiry .a) (s 2)).engineAt .a).failed = 1
      ∧ ((after (.guardTimeExpiry .a) (s 2)).stationAt 0).health = .suspect := by
  decide

/-- R83, R85: a low pin for the break limit halts the line; the pin's return ends the measurement. -/
theorem test_break_and_pin_return :
    let s := after (.startBitArrival .a) (flying .awaiting called State.reset)
    (s.engineAt .a).lowSpan = some 22 ∧ ((after (.pinReturnsHigh .a) s).engineAt .a).lowSpan = none
      ∧ ((after (.breakDetected .a) s).engineAt .a).haltCause = .lineBreak
      ∧ (after (.breakDetected .a) s).arbiter.pendingLineA = true := by
  decide

/-- R143, R145: a configured STOPPED line sends its safe call. -/
theorem test_supervision_expiry :
    let s := (served .a .single .stopped State.reset).modEngine .a fun g =>
      { g with config := { g.config with safeCallEnable := true } }
    let t := after .supervisionExpiry
      { s with supervision := { state := .armed, period := 5, countdown := 0, subMs := 0 } }
    (t.engineAt .a).windDown = true ∧ (t.engineAt .a).exState = .calling
      ∧ (t.engineAt .a).exchange.map (fun e => e.address) = some 63 ∧ t.arbiter.pendingSupervision = true
      ∧ (t.engineAt .b).control = .stopped := by
  decide

/-- R142: a refresh that lands before the expiry loads the countdown, and the expiry does not happen. -/
theorem test_refresh_before_the_expiry :
    let s := { State.reset with supervision := { state := .armed, period := 5, countdown := 0, subMs := 0 } }
    (after .supervisionExpiry s).supervision.state = .expired
      ∧ (after .supervisionExpiry (after (.supvRefresh .low 0) s)).supervision.state = .armed
      ∧ (after .supervisionExpiry (after (.supvRefresh .low 0) s)).events.records = [] := by
  decide

/-- R144: the safe call that waits in a guard time sends the buffer as it stands when the guard time expires. -/
theorem test_safe_call_image_at_its_start :
    let s := (served .a .single .running State.reset).modEngine .a fun g =>
      { g with exState := .guarding, span := some 0, config := { g.config with safeCallEnable := true } }
    let t := after .supervisionExpiry
      { s with supervision := { state := .armed, period := 5, countdown := 0, subMs := 0 } }
    let written := t.setSafeCall .a { SafeCallBuffer.reset with functionCode := 0x99 }
    (t.engineAt .a).exchange.map (fun e => e.made) = some 0
      ∧ ((after (.guardTimeExpiry .a) written).engineAt .a).exchange.map (fun e => (e.functionCode, e.made))
        = some (0x99, 1) := by
  decide

/-! ### Witnesses: each meets every hypothesis of its obligation, clause by clause -/

/-- Line A counting: a cycle timer, AWAITING, and an ARMED countdown. -/
def ticking (counter left subMs countdown : Nat) : State :=
  { (flying .awaiting called State.reset).modEngine .a fun g => { g with span := some left } with
    sweep := { a := { SweepController.reset with timerRunning := true, counter := counter }, b := SweepController.reset },
    supervision := { state := .armed, period := 9, countdown := countdown, subMs := subMs } }

theorem witness_timers :
    (ticking 1 1 999 1).pending = [] ∧ ((ticking 1 1 999 1).sweepAt .a).timerRunning = true
      ∧ ((ticking 2 2 998 2).sweepAt .b).timerRunning = false
      ∧ ((ticking 2 2 998 2).engineAt .a).exState = .awaiting ∧ ((ticking 2 2 998 2).engineAt .a).span = some 2
      ∧ (ticking 1 1 999 1).supervision.state = .armed ∧ State.reset.supervision.state ≠ .armed
      ∧ (let edged := (after (.startBitArrival .a) (ticking 1 1 999 1))
        (edged.engineAt .a).edge = some { left := 1, awaited := true, span := some 1, overdue := false, later := [] } ∧ edged.pins.rx.get .a = .low
          ∧ (after (.pinReturnsHigh .a) edged).pins.rx.get .a = .high)
      ∧ (ExchangeState.guarding, Instr.guardTimeExpiry .b) ∈ [(ExchangeState.awaiting, Instr.answerTimeout .b),
        (.receiving, .gapLimitExpiry .b), (.draining, .drainSilenceEnd .b), (.guarding, .guardTimeExpiry .b)] := by
  decide

theorem witness_event_queue_law :
    (∃ t, step { queued 32 7 State.reset with pending := [.evtAdvance .low 0] } = .next t)
      ∧ (queued 32 7 State.reset).events.lawful :=
  ⟨⟨_, Eq.refl _⟩, by unfold EventQueue.lawful; decide⟩

/-- The deepest level stack. -/
def deepStack : Arbiter := { Arbiter.reset with service := 7, stack := [6, 5, 4, 3, 2, 1, 0] }

theorem witness_level_stack_law :
    (∃ t, step { State.reset with arbiter := deepStack, pending := [.intEos .low 0] } = .next t)
      ∧ deepStack.stackLawful :=
  ⟨⟨_, Eq.refl _⟩, by unfold Arbiter.stackLawful; decide⟩

/-- COMMAND requests at level 7 above service level 6. -/
def requestingState : State :=
  { State.reset with
    arbiter := { Arbiter.reset with levelCommand := 7, service := 6, pendingCommand := true, irq := true },
    pending := [.intClaim .word] }

theorem witness_irq_law : (∃ t, step requestingState = .next t) ∧ irqLawful requestingState :=
  ⟨⟨_, Eq.refl _⟩, fun _ => ⟨.command, by decide⟩, fun _ => Eq.refl _⟩

/-- A SUSPECT station one failure below its limit, in the retry's guard time. -/
def suspected : State :=
  { (stationed 0 .a 0x11 .suspect (flying .guarding { called with outcome := some .noAnswer } State.reset)) with
    pending := [.guardTimeExpiry .a] }.setStation 0
      { Station.reset with defined := true, address := some 0x11, health := .suspect, failureCount := 1 }

theorem suspected_other (i : Fin 32) (h : i ≠ 0) : suspected.stationAt i = Station.reset := by
  revert i
  decide

theorem witness_failure_count_law : (∃ t, step suspected = .next t) ∧ countsLawful suspected := by
  refine ⟨⟨_, Eq.refl _⟩, fun i => ?_⟩
  by_cases h : i = 0
  · subst h
    exact ⟨by decide, by decide, show 1 < 2 by decide⟩
  · rw [suspected_other i h]
    exact ⟨by decide, by decide, show (0 : Nat) = 0 by decide⟩

theorem witness_address_law : (∃ t, step suspected = .next t) ∧ addressesLawful suspected := by
  refine ⟨⟨_, Eq.refl _⟩, fun i hd => ?_, fun i j hi hj _ _ => ?_⟩
  · by_cases h : i = 0
    · subst h
      exact ⟨0x11, by decide⟩
    · rw [suspected_other i h] at hd
      exact absurd hd (by decide)
  · by_cases h : i = 0
    · by_cases g : j = 0
      · rw [h, g]
      · rw [suspected_other j g] at hj
        exact absurd hj (by decide)
    · rw [suspected_other i h] at hi
      exact absurd hi (by decide)

/-- Station 0 in the live list of line A with the largest divider and phase, and in its shadow. -/
def listed : State :=
  (stationed 0 .a 0x11 .online State.reset).modSweep .a fun c =>
    { c with live := [{ station := 0, divider := 16, phase := 15 }], shadow := some [{ station := 0, divider := 1, phase := 0 }] }

theorem witness_sweep_list_law :
    (∃ t, step { listed with pending := [.dropStation] } = .next t) ∧ sweepListsLawful listed := by
  refine ⟨⟨_, Eq.refl _⟩, fun x => ?_⟩
  unfold slotLawful
  cases x <;> decide

/-- Descriptor 2 QUEUED in the normal FIFO of line A. -/
def waiting : State :=
  { (described 2 .queued State.reset).setFifo .a .normal [2] with pending := [.flushRequests] }

theorem witness_request_queue_law :
    (∃ t, step waiting = .next t) ∧ queuesLawful waiting ∧ exchangesLawful waiting := by
  refine ⟨⟨_, Eq.refl _⟩, ⟨by decide, fun x u => ?_⟩, fun x e d he _ => ?_⟩
  · cases x <;> cases u <;> decide
  · cases x <;> exact absurd he (by simp [waiting, State.engineAt, State.setFifo, described, State.reset,
      LineEngine.reset, PerLine.get, State.setDescriptor])

theorem witness_line_laws :
    (∃ t, step { flying .calling called State.reset with pending := [.callFrameSent .a] } = .next t)
      ∧ linesLawful (flying .calling called State.reset) := by
  refine ⟨⟨_, Eq.refl _⟩, fun x => ⟨?_, ?_, ?_, ?_⟩⟩
  · unfold LineEngine.driverLawful
    cases x <;> decide
  · intro e he
    cases x
    · cases he
      decide
    · exact nomatch he
  · unfold restLawful
    cases x <;> decide
  · cases x <;> decide

theorem witness_posts_and_removals :
    (queued 31 0 State.reset).events.records.length < 32 ∧ 32 ≤ (queued 32 255 State.reset).events.records.length
      ∧ windowOpen (queued 32 1 State.reset) = true ∧ State.reset.events.records = []
      ∧ (queued 32 1 State.reset).events.records = someRecord :: List.replicate 31 someRecord
      ∧ 0 < (queued 32 1 State.reset).events.lost ∧ (queued 32 0 State.reset).events.lost = 0 := by
  decide

theorem witness_refused_commands :
    (Instr.defineStation, (0x10 : Byte)) ∈ completions ∧ State.reset.inProgress 0x10 = none
      ∧ (ask (taken 0x10 0x0020 0 0 0) State.reset).inProgress 0x10 = some (taken 0x10 0x0020 0 0 0)
      ∧ (after .defineStation (ask (taken 0x10 0x0020 0 0 0) State.reset)).command.result0 ≠ 0x0000
      ∧ (after .defineStation (ask (taken 0x10 0x0020 0 0 0) State.reset)).command.result0 ≠ 0x0001 := by
  decide

theorem witness_define_station :
    let p := taken 0x10 0x011F 0x003E 0x0F03 0x01FF
    let s := ask p (stationed 0 .a 0x3E .online State.reset)
    s.inProgress 0x10 = some p ∧ fieldOf p.param0 0 8 = (31 : Fin 32).val ∧ hiByte p.param0 = lineCode .b
      ∧ 1 ≤ (loByte p.param1).toNat ∧ (loByte p.param1).toNat ≤ 62 ∧ (loByte p.param2).toNat ≤ 3
      ∧ 2 ≤ (hiByte p.param2).toNat ∧ (hiByte p.param2).toNat ≤ 15 ∧ 1 ≤ (loByte p.param3).toNat
      ∧ hiByte p.param3 = yesNo true ∧ (s.stationAt 31).defined = false
      ∧ ∀ j, (s.stationAt j).defined = true → (s.stationAt j).line = .b →
        (s.stationAt j).address ≠ some (loByte p.param1) := by
  decide

theorem witness_drop_station :
    let p := taken 0x11 0x001F 0 0 0
    let s := ask p (stationed 31 .a 0x3E .online listed)
    s.inProgress 0x11 = some p ∧ fieldOf p.param0 0 8 = (31 : Fin 32).val ∧ (s.stationAt 31).defined = true
      ∧ (∀ slot ∈ (s.sweepAt (s.stationAt 31).line).live ++ (s.sweepAt (s.stationAt 31).line).shadow.getD [],
        slot.station ≠ 31)
      ∧ (∀ d, (s.descriptorAt d).target = some (.station 31) →
        (s.descriptorAt d).state ≠ .queued ∧ (s.descriptorAt d).state ≠ .active)
      ∧ s.port.view ≠ some (.stationCall 31) ∧ s.port.view ≠ some (.stationAnswer 31)
      ∧ s.port.view ≠ some (.stationInfo 31) := by
  decide

theorem witness_enable_station :
    let p := taken 0x12 0x001F 0 0 0
    let s (health : Health) := ask p (stationed 31 .b 0x01 health State.reset)
    (s .disabled).inProgress 0x12 = some p ∧ fieldOf p.param0 0 8 = (31 : Fin 32).val
      ∧ ((s .disabled).stationAt 31).defined = true ∧ ((s .disabled).stationAt 31).health = .disabled
      ∧ ((s .offline).stationAt 31).health ≠ .disabled ∧ ((ask p State.reset).stationAt 31).defined = false := by
  decide

theorem witness_disable_station :
    let p := taken 0x13 0x001F 0 0 0
    let s := ask p (stationed 31 .b 0x01 .online State.reset)
    s.inProgress 0x13 = some p ∧ fieldOf p.param0 0 8 = (31 : Fin 32).val ∧ (s.stationAt 31).defined = true := by
  decide

theorem witness_set_station_limits :
    let p := taken 0x14 0x001F 0x0003 0x0002 0x0001
    let s := ask p (stationed 31 .b 0x01 .offline State.reset)
    s.inProgress 0x14 = some p ∧ fieldOf p.param0 0 8 = (31 : Fin 32).val ∧ (s.stationAt 31).defined = true
      ∧ (loByte p.param1).toNat ≤ 3 ∧ 2 ≤ (loByte p.param2).toNat ∧ (loByte p.param2).toNat ≤ 15
      ∧ 1 ≤ (loByte p.param3).toNat := by
  decide

theorem witness_station_refusals :
    let bad := taken 0x11 0x0020 0 0 0
    let free := taken 0x11 0x001F 0 0 0
    let inRange (position : Nat) (p : TakenCommand) : Bool := match position with
      | 1 => (loByte p.param0).toNat < 32
      | 2 => (loByte p.param1).toNat ≤ 3
      | 3 => 2 ≤ (loByte p.param2).toNat && (loByte p.param2).toNat ≤ 15
      | 4 => 1 ≤ (loByte p.param3).toNat
      | _ => true
    let limits := taken 0x14 0x001F 0x0003 0x000F 0x0000
    let high := taken 0x14 0x001F 0x0003 0x000F 0x00FF
    (ask bad State.reset).inProgress 0x11 = some bad ∧ 32 ≤ fieldOf bad.param0 0 8
      ∧ (Instr.dropStation, (0x11 : Byte)) ∈ [(Instr.dropStation, (0x11 : Byte)), (.enableStation, 0x12)]
      ∧ (ask free State.reset).inProgress 0x11 = some free ∧ fieldOf free.param0 0 8 = (31 : Fin 32).val
      ∧ ((ask free State.reset).stationAt 31).defined = false
      ∧ (ask limits State.reset).inProgress 0x14 = some limits ∧ (∀ k, k < 4 → inRange k limits = true)
      ∧ inRange 4 limits = false ∧ fieldOf high.param0 0 8 = (31 : Fin 32).val ∧ ∀ k, k < 5 → inRange k high = true := by
  decide

theorem witness_define_refusals :
    let inRange (position : Nat) (p : TakenCommand) : Bool := match position with
      | 1 => (loByte p.param0).toNat < 32
      | 2 => (hiByte p.param0).toNat < 2
      | 3 => 1 ≤ (loByte p.param1).toNat && (loByte p.param1).toNat ≤ 62
      | 5 => (loByte p.param2).toNat ≤ 3
      | 6 => 2 ≤ (hiByte p.param2).toNat && (hiByte p.param2).toNat ≤ 15
      | 7 => 1 ≤ (loByte p.param3).toNat
      | 8 => (hiByte p.param3).toNat < 2
      | _ => true
    let define := taken 0x10 0x011F 0x003E 0x0F03 0x0001
    let outside := taken 0x10 0x011F 0x003E 0x0F03 0x0201
    let s := ask define (stationed 9 .b 0x3E .online State.reset)
    s.inProgress 0x10 = some define ∧ (ask outside State.reset).inProgress 0x10 = some outside
      ∧ (∀ k, k < 8 → inRange k outside = true) ∧ inRange 8 outside = false ∧ (∀ k, k < 9 → inRange k define = true)
      ∧ fieldOf define.param0 0 8 = (31 : Fin 32).val ∧ hiByte define.param0 = lineCode .b
      ∧ ((stationed 31 .b 0x3E .online State.reset).stationAt 31).defined = true
      ∧ (s.stationAt 31).defined = false ∧ (s.stationAt 9).defined = true ∧ (s.stationAt 9).line = .b
      ∧ (s.stationAt 9).address = some (loByte define.param1)
      ∧ ∀ k, (s.stationAt k).defined = true → k = 9 := by
  decide

theorem witness_station_in_use :
    let named := taken 0x11 0x0000 0 0 0
    let asked := ask named (described 5 .active (stationed 0 .a 0x11 .online State.reset))
    let viewed := ask named (viewing (.stationInfo 0) 0 (stationed 0 .a 0x11 .online State.reset))
    let listedAt (s : State) : Bool :=
      ((s.sweepAt .a).live ++ (s.sweepAt .a).shadow.getD []).any fun slot => slot.station = 0
    (ask named listed).inProgress 0x11 = some named ∧ fieldOf named.param0 0 8 = (0 : Fin 32).val
      ∧ ((ask named listed).stationAt 0).defined = true ∧ listedAt (ask named listed) = true
      ∧ listedAt asked = false ∧ (asked.descriptorAt 5).target = some (.station 0)
      ∧ (asked.descriptorAt 5).state = .active ∧ (asked.stationAt 0).line = .a
      ∧ listedAt viewed = false ∧ (∀ d, (viewed.descriptorAt d).target = none)
      ∧ viewed.port.view = some (.stationInfo 0) := by
  decide

/-- A build area of 48 entries: station 31, divider 16, phase 15. -/
def fullBuild (length : Byte) : BuildArea :=
  { length := length, slotBytes := ⟨((List.replicate 48 [(31 : Byte), 16, 15]).flatten).toArray, by decide +kernel⟩ }

/-- Station 31 on line B, whose build area is full; the line in a control state. -/
def building (length : Byte) (control : LineState) : State :=
  (served .b .single control (stationed 31 .b 0x3E .disabled State.reset)).setBuild .b (fullBuild length)

theorem witness_load_sweep :
    let p := taken 0x20 0x0001 0 0 0
    let s (control : LineState) := ask p (building 48 control)
    (s .stopped).inProgress 0x20 = some p ∧ loByte p.param0 = lineCode .b
      ∧ ((s .stopped).store.builds.get .b).length.toNat ≤ 48
      ∧ ((s .stopped).engineAt .b).control = .stopped ∧ ((s .halted).engineAt .b).control = .halted
      ∧ ((s .running).engineAt .b).control = .running ∧ ((s .stopping).engineAt .b).control = .stopping
      ∧ ∀ k, k < 48 →
        let b := (s .stopped).store.builds.get .b
        b.slotByte (3 * k) < 32 ∧ ((s .stopped).stationAt (stationOfNat (b.slotByte (3 * k)))).defined = true
          ∧ ((s .stopped).stationAt (stationOfNat (b.slotByte (3 * k)))).line = .b
          ∧ 1 ≤ b.slotByte (3 * k + 1) ∧ b.slotByte (3 * k + 1) ≤ 16
          ∧ b.slotByte (3 * k + 2) < b.slotByte (3 * k + 1) := by
  decide +kernel

theorem witness_load_sweep_faults :
    let p := taken 0x20 0x0001 0 0 0
    let s := ask p ((building 48 .stopped).setBuild .b
      { fullBuild 48 with slotBytes := (fullBuild 48).slotBytes.set 143 16 })
    (ask (taken 0x20 0x0002 0 0 0) State.reset).inProgress 0x20 = some (taken 0x20 0x0002 0 0 0)
      ∧ 2 ≤ (loByte (taken 0x20 0x0002 0 0 0).param0).toNat
      ∧ 48 < ((building 49 .stopped).store.builds.get .b).length.toNat
      ∧ s.inProgress 0x20 = some p ∧ loByte p.param0 = lineCode .b ∧ (s.store.builds.get .b).length.toNat = 48
      ∧ ∀ k, k ≤ 47 →
        let b := s.store.builds.get .b
        (b.slotByte (3 * k) < 32 ∧ (s.stationAt (stationOfNat (b.slotByte (3 * k)))).defined = true
          ∧ (s.stationAt (stationOfNat (b.slotByte (3 * k)))).line = .b
          ∧ 1 ≤ b.slotByte (3 * k + 1) ∧ b.slotByte (3 * k + 1) ≤ 16
          ∧ b.slotByte (3 * k + 2) < b.slotByte (3 * k + 1)) ↔ k ≠ 47 := by
  decide +kernel

theorem witness_set_period :
    let p (line value : Word) := taken 0x22 line value 0 0
    (ask (p 2 100) State.reset).inProgress 0x22 = some (p 2 100) ∧ 2 ≤ (loByte (p 2 100).param0).toNat
      ∧ loByte (p 1 99).param0 = lineCode .b ∧ (p 1 99).param1.toNat < 100 ∧ 100 ≤ (p 1 100).param1.toNat
      ∧ ((served .b .timed .halted State.reset).engineAt .b).control = .halted
      ∧ ((served .b .timed .running State.reset).engineAt .b).control = .running := by
  decide

theorem witness_cycle_starts :
    let between := served .a .timed .running State.reset
    let sweeping := between.modSweep .a fun c => { c with state := .sweeping }
    let held := sweeping.modSweep .a fun c => { c with pendingStart := true }
    let busy := flying .guarding called State.reset
    (State.reset.engineAt .a).control ≠ .running ∧ (between.engineAt .a).control = .running
      ∧ (between.engineAt .a).windDown = false ∧ (between.sweepAt .a).state = .between
      ∧ (between.sweepAt .a).pendingStart = false ∧ (between.engineAt .a).exchange = none
      ∧ (busy.engineAt .a).exchange ≠ none ∧ (busy.engineAt .a).control = .running
      ∧ (busy.sweepAt .a).state = .between ∧ (busy.sweepAt .a).pendingStart = false
      ∧ (sweeping.sweepAt .a).state = .sweeping ∧ (sweeping.sweepAt .a).pendingStart = false
      ∧ (held.sweepAt .a).state ≠ .inactive ∧ (held.sweepAt .a).pendingStart = true := by
  decide

theorem witness_cycle_start_sources :
    let p := taken 0x26 0x0000 0 0 0
    let s := ask p (served .a .single .running State.reset)
    ((ticking 0 1 0 1).sweepAt .a).timerRunning = true
      ∧ ((served .a .triggered .running State.reset).engineAt .a).config.mode = .triggered
      ∧ (State.reset.engineAt .a).control ≠ .running
      ∧ (ask (taken 0x26 2 0 0 0) State.reset).inProgress 0x26 = some (taken 0x26 2 0 0 0)
      ∧ s.inProgress 0x26 = some p ∧ loByte p.param0 = lineCode .a ∧ s.supervision.state ≠ .expired
      ∧ (s.engineAt .a).control = .running ∧ (s.engineAt .a).config.mode = .single
      ∧ (s.engineAt .a).windDown = false ∧ (s.sweepAt .a).state ≠ .inactive
      ∧ ({ s with supervision := { SupervisionTimer.reset with state := .expired } } : State).supervision.state = .expired
      ∧ ((served .a .timed .running State.reset).engineAt .a).config.mode ≠ .single := by
  decide

theorem witness_sweep_start :
    Line.b ≠ Line.a ∧ (listed.sweepAt .a).shadow = some [{ station := 0, divider := 1, phase := 0 }]
      ∧ (listed.sweepAt .b).shadow = none := by
  decide

theorem witness_scan :
    let due : Slot := { station := 0, divider := 1, phase := 0 }
    let passed : List Slot := [{ station := 1, divider := 16, phase := 15 }, { station := 2, divider := 1, phase := 0 }]
    let s (health : Health) (countdown : Nat) :=
      (stationed 0 .a 0x11 health State.reset).setStation 0
        { (stationed 0 .a 0x11 health State.reset).stationAt 0 with probeCountdown := countdown }
    (∀ q ∈ passed, slotDue q ((s .online 0).sweepAt .a).count = true →
        ((s .online 0).stationAt q.station).health = .disabled)
      ∧ slotDue due ((s .online 0).sweepAt .a).count = true ∧ ((s .online 0).stationAt 0).health = .online
      ∧ ((s .disabled 0).stationAt 0).health = .disabled
      ∧ slotDue { station := 1, divider := 16, phase := 15 } ((s .online 0).sweepAt .a).count = false
      ∧ (scanSlots .a passed (s .online 0)).2 = none
      ∧ ((s .offline 0).stationAt 0).health = .offline ∧ ((s .offline 0).stationAt 0).probeCountdown = 0
      ∧ 0 < ((s .offline 1).stationAt 0).probeCountdown := by
  decide

theorem witness_picks_in_a_sweep :
    let s := ((served .a .repeating .running (stationed 0 .a 0x11 .online State.reset)).setFifo .a .urgent [7, 2]).modSweep
      .a fun c => { c with state := .sweeping, pointer := 48, live := [{ station := 0, divider := 1, phase := 0 }] }
    let spent := s.modSweep .a fun c => { c with burst := 1 }
    (s.sweepAt .a).state = .sweeping ∧ s.fifo .a .urgent = [7, 2] ∧ (s.sweepAt .a).burst < (s.engineAt .a).config.urgentBurst
      ∧ (spent.engineAt .a).config.urgentBurst ≤ (spent.sweepAt .a).burst ∧ (State.reset.sweepAt .a).state = .inactive
      ∧ (scanSlots .a ((spent.sweepAt .a).live.drop 47) spent).2 = none
      ∧ (scanSlots .a ((spent.sweepAt .a).live.drop 0) spent).2 = some (.slot 0 .cyclic)
      ∧ (scanSlots .a ((startSweep .a s).sweepAt .a).live (startSweep .a s)).2 = some (.slot 0 .cyclic)
      ∧ (scanSlots .b ((startSweep .b s).sweepAt .b).live (startSweep .b s)).2 = none := by
  decide

theorem witness_entry : Line.b ≠ Line.a ∧
    let s := (stationed 31 .a 0x3E .online State.reset).setStation 31
      { (stationed 31 .a 0x3E .online State.reset).stationAt 31 with commitPending := true }
    (s.stationAt 31).commitPending = true ∧ (s.stationAt 31).line = .a ∧ (s.stationAt 0).commitPending = false := by
  decide

theorem witness_picks :
    let s (mode : SweepMode) := served .a mode .running State.reset
    let waits (u : Urgency) (mode : SweepMode) := (s mode).setFifo .a u [7, 2]
    ((s .single).sweepAt .a).state = .between ∧ ((s .single).sweepAt .a).pendingStart = false
      ∧ (((s .single).modSweep .a fun c => { c with pendingStart := true }).sweepAt .a).pendingStart = true
      ∧ (waits .urgent .single).fifo .a .urgent = [7, 2] ∧ (waits .normal .single).fifo .a .urgent = []
      ∧ (waits .normal .single).fifo .a .normal = [7, 2]
      ∧ ((waits .normal .repeating).engineAt .a).config.mode = .repeating
      ∧ ((waits .normal .repeating).sweepAt .a).normalServed = false ∧ (s .repeating).fifo .a .normal = []
      ∧ ((s .repeating).sweepAt .a).exchangeTaken = false := by
  decide

theorem witness_set_line :
    let low := taken 0x21 0x1100 0x0016 0x1601 0x0064
    let high := taken 0x21 0xCDFF 0x3FFF 0xFFFF 0xFFFF
    let meets (p : TakenCommand) : Bool :=
      fieldOf p.param0 8 2 < 2 && 22 ≤ fieldOf p.param1 0 12 && 1 ≤ fieldOf p.param2 0 8 && 22 ≤ fieldOf p.param2 8 8
        && 1 ≤ fieldOf p.param0 12 3 && fieldOf p.param0 12 3 ≤ 4 && 100 ≤ p.param3.toNat
    let bad := taken 0x21 0x5000 0x0016 0x1601 0x0064
    (ask bad State.reset).inProgress 0x21 = some bad ∧ fieldOf bad.param0 8 2 < 2 ∧ 4 < fieldOf bad.param0 12 3
      ∧ meets bad = false ∧
    (ask low State.reset).inProgress 0x21 = some low ∧ meets low = true ∧ meets high = true
      ∧ (State.reset.engineAt .b).control = .stopped ∧ (State.reset.engineAt .b).windDown = false
      ∧ ((served .b .single .running State.reset).engineAt .b).control = .running := by
  decide

theorem witness_start_line :
    let p := taken 0x23 0x0001 0 0 0
    let s := ask p (served .b .timed .halted State.reset)
    (ask (taken 0x23 2 0 0 0) State.reset).inProgress 0x23 = some (taken 0x23 2 0 0 0)
      ∧ s.inProgress 0x23 = some p ∧ loByte p.param0 = lineCode .b ∧ (s.engineAt .b).control = .halted
      ∧ (s.engineAt .b).windDown = false ∧ (s.engineAt .b).configured = true ∧ s.supervision.state ≠ .expired
      ∧ ((ask p State.reset).engineAt .b).configured = false
      ∧ ((served .b .timed .stopping State.reset).engineAt .b).control = .stopping := by
  decide

theorem witness_stop_line :
    let p := taken 0x24 0 0 0 0
    (ask (taken 0x24 2 0 0 0) State.reset).inProgress 0x24 = some (taken 0x24 2 0 0 0)
      ∧ (ask p (flying .guarding called State.reset)).inProgress 0x24 = some p ∧ loByte p.param0 = lineCode .a
      ∧ (State.reset.engineAt .a).control ≠ .running
      ∧ ((served .a .single .running State.reset).engineAt .a).exchange = none
      ∧ ((flying .guarding called State.reset).engineAt .a).exchange ≠ none := by
  decide

theorem witness_abort_line :
    let p := taken 0x25 0 0 0 0
    let s (state : ExchangeState) := ask p (flying state called State.reset)
    (ask (taken 0x25 2 0 0 0) State.reset).inProgress 0x25 = some (taken 0x25 2 0 0 0)
      ∧ (s .calling).inProgress 0x25 = some p ∧ loByte p.param0 = lineCode .a
      ∧ (State.reset.engineAt .a).control = .stopped ∧ ((s .calling).engineAt .a).control = .running
      ∧ ((s .calling).engineAt .a).abortPending = false ∧ ((s .calling).engineAt .a).exchange = some called
      ∧ ((s .calling).engineAt .a).exState = .calling ∧ ((s .draining).engineAt .a).exState ≠ .calling
      ∧ ((served .a .single .running State.reset).engineAt .a).exchange = none
      ∧ ((after .abortLine (s .calling)).engineAt .a).abortPending = true
      ∧ ((after .abortLine (s .calling)).engineAt .a).exchange = some called
      ∧ (after .abortLine (s .calling)).port.ready = true
      ∧ (let reset := after (.commandTake .word 0x005F) (flying .calling called State.reset)
        (reset.engineAt .a).abortPending = true ∧ (reset.engineAt .a).exState = .calling ∧ reset.port.ready = false
          ∧ (reset.engineAt .a).exchange = some called) := by
  decide

theorem witness_requests_start :
    let s := described 15 .active (stationed 0 .b 0x11 .offline State.reset)
    let z := s.setDescriptor 0 { Descriptor.reset with state := .active, target := some (.broadcast .b), line := .b }
    Line.a ≠ Line.b ∧ (s.descriptorAt 15).target = some (.station 0) ∧ (s.engineAt .b).exState = .idle
      ∧ (z.descriptorAt 0).target = some (.broadcast .b)
      ∧ ((served .b .single .running z).modEngine .b fun g => { g with exState := .guarding }).engineAt .b
        ≠ z.engineAt .b := by
  decide

theorem witness_slots_start :
    let s := State.reset.setStation 31 { Station.reset with commitPending := true }
    (s.engineAt .a).exState = .idle ∧ (s.stationAt 31).commitPending = true ∧ (s.stationAt 30).commitPending = false
      ∧ ((flying .guarding called s).engineAt .a).exState = .guarding ∧ ExchangeKind.probe ≠ .cyclic := by
  decide

theorem witness_call_frame_sent :
    let s (e : Exchange) := flying .calling e State.reset
    let safe := { called with kind := .safeCall, station := none, address := 63, answerMax := none, allowed := 1 }
    ((s called).engineAt .a).exchange = some called ∧ ((s called).engineAt .a).exState = .calling
      ∧ ((s called).engineAt .a).abortPending = false ∧ (s called).pins.rx.get .a = .high ∧ called.kind = .cyclic
      ∧ ((s called).setRx .a .low).pins.rx.get .a ≠ .high
      ∧ (((s called).setRx .a .low).engineAt .a).exState = .calling
      ∧ ((s safe).engineAt .a).exchange = some safe ∧ safe.kind = .safeCall := by
  decide

theorem witness_pin_edges :
    let s := flying .awaiting called State.reset
    let pending := after (.pinReturnsHigh .a) (after (.startBitArrival .a) s)
    let inside := hearing .receiving ReceiveBuffer.reset
    s.pins.rx.get .a = .high ∧ (s.engineAt .a).receiverOn = true ∧ (s.engineAt .a).reception = none
      ∧ (State.reset.engineAt .a).receiverOn = false ∧ State.reset.pins.rx.get .a = .high
      ∧ pending.pins.rx.get .a = .high ∧ (pending.engineAt .a).edge ≠ none ∧ (pending.engineAt .a).reception ≠ none
      ∧ (inside.engineAt .a).receiverOn = true ∧ (inside.engineAt .a).edge = none
      ∧ (inside.engineAt .a).reception = some { elapsed := 10, lastEdge := 0 } ∧ inside.pins.rx.get .a = .low
      ∧ (inside.setRx .a .high).pins.rx.get .a = .high ∧ (s.setRx .a .low).pins.rx.get .a = .low := by
  decide

theorem witness_answer_characters :
    let s (b : ReceiveBuffer) := hearing .receiving b
    let at_ (position declared stored : Nat) : ReceiveBuffer :=
      { ReceiveBuffer.reset with position := position, declared := byteOf declared, stored := stored }
    ((s (at_ 0 0 0)).engineAt .a).receiverOn = true ∧ ((s (at_ 0 0 0)).engineAt .a).receiving = true
      ∧ ((s (at_ 0 0 0)).engineAt .a).exState = .receiving ∧ ((s (at_ 0 0 0)).engineAt .a).exchange = some called
      ∧ ((s (at_ 0 0 0)).engineAt .a).buffer.position = 0 ∧ (0x11 : Byte) = called.address ∧ (0x12 : Byte) ≠ called.address
      ∧ ((s (at_ 1 0 0)).engineAt .a).buffer.position = 1 ∧ ((s (at_ 2 0 0)).engineAt .a).buffer.position = 2
      ∧ called.answerMax = some 32 ∧ (32 : Byte).toNat ≤ 32 ∧ 32 < (33 : Byte).toNat
      ∧ (at_ 34 32 31).position < 3 + (at_ 34 32 31).declared.toNat ∧ (at_ 34 32 31).stored < 32
      ∧ (at_ 35 32 32).position = 3 + (at_ 35 32 32).declared.toNat
      ∧ (at_ 3 0 0).position = 3 + (at_ 3 0 0).declared.toNat := by
  decide

theorem witness_last_character :
    let b : ReceiveBuffer := { ReceiveBuffer.reset with position := 36, declared := 32, stored := 32 }
    let s := hearing .receiving b
    (s.engineAt .a).receiverOn = true ∧ (s.engineAt .a).receiving = true ∧ (s.engineAt .a).exState = .receiving
      ∧ (s.engineAt .a).exchange = some called ∧ (s.engineAt .a).buffer.position = (s.engineAt .a).buffer.declared.toNat + 4 := by
  decide

theorem witness_strays_and_faults :
    let s (state : ExchangeState) := hearing state ReceiveBuffer.reset
    ((s .receiving).engineAt .a).receiverOn = true ∧ ((s .receiving).engineAt .a).receiving = true
      ∧ ((s .receiving).engineAt .a).exState = .receiving ∧ ((s .receiving).engineAt .a).exchange = some called
      ∧ ((s .guarding).engineAt .a).exState = .guarding ∧ ((s .draining).engineAt .a).exState = .draining
      ∧ (s .receiving).pins.rx.get .a = .low ∧ (State.reset.engineAt .a).receiverOn = false
      ∧ (State.reset.engineAt .a).exchange = none ∧ ((s .receiving).engineAt .a).edgesTell .low 0xFF false false = false
      ∧ ((s .receiving).engineAt .a).edgesTell .low 0 false false = true
      ∧ ((after (.startBitArrival .a) (s .receiving)).engineAt .a).edgesTell .low 0xFF true false = true
      ∧ ((after (.startBitArrival .a) (s .receiving)).engineAt .a).edgesTell .low 0xFF true true = false := by
  decide

theorem witness_expiries :
    let s (state : ExchangeState) := (flying state called State.reset).modEngine .a fun g => { g with span := some 0 }
    ((s .awaiting).engineAt .a).exchange = some called ∧ ((s .awaiting).engineAt .a).span = some 0
      ∧ (s .awaiting).pins.rx.get .a = .high ∧ ((s .awaiting).engineAt .a).reception = none
      ∧ ((s .awaiting).engineAt .a).exState = .awaiting ∧ ((s .receiving).engineAt .a).exState = .receiving
      ∧ ((s .draining).engineAt .a).exState = .draining ∧ ((s .guarding).engineAt .a).exState = .guarding
      ∧ (let t := after (.startBitArrival .a) (s .awaiting)
        (t.engineAt .a).edge = some { left := 1, awaited := true, span := some 0, overdue := false, later := [] }
          ∧ (t.engineAt .a).exState = .receiving)
      ∧ (((s .awaiting).setRx .a .low).engineAt .a).edge = none
      ∧ (let t := overtaken
        (t.engineAt .a).edge = some { left := 1, awaited := true, span := some 0, overdue := true, later := [] }
          ∧ (t.engineAt .a).reception = some { elapsed := 1, lastEdge := 0 } ∧ (t.engineAt .a).exState = .receiving
          ∧ ((after (.answerTimeout .a) t).engineAt .a).receiverOn = true) := by
  decide

theorem witness_guard_expiry :
    let s (e : Option Exchange) := (flying .guarding called State.reset).modEngine .a fun g =>
      { g with span := some 0, exchange := e }
    ((s none).engineAt .a).exState = .guarding ∧ ((s none).engineAt .a).span = some 0 ∧ ((s none).engineAt .a).edge = none
      ∧ ((s none).engineAt .a).exchange = none ∧ ((s none).engineAt .a).config.mode ≠ .repeating
      ∧ ((s (some called)).engineAt .a).exchange = some called ∧ called.outcome = none
      ∧ ({ called with outcome := some .noAnswer } : Exchange).outcome = some .noAnswer
      ∧ classOf .noAnswer = .failure ∧ called.made < called.allowed
      ∧ ((s none).engineAt .a).control = .running ∧ ((s none).engineAt .a).windDown = false
      ∧ ((served .a .repeating .running (s none)).engineAt .a).config.mode = .repeating
      ∧ ((served .a .repeating .running (s none)).sweepAt .a).state = .between := by
  decide

theorem witness_guard_expiry_goes_on :
    let last : Exchange := { called with made := 2, outcome := some .noAnswer }
    let s (control : LineState) (windDown safeCall : Bool) := (flying .guarding last State.reset).modEngine .a fun g =>
      { g with span := some 0, control := control, windDown := windDown,
               config := { g.config with safeCallEnable := safeCall } }
    ¬ last.made < last.allowed ∧ ((s .running true true).engineAt .a).exchange = some last ∧ last.kind ≠ .safeCall
      ∧ ((s .running true true).engineAt .a).windDown = true
      ∧ ((s .running true true).engineAt .a).config.safeCallEnable = true
      ∧ ((s .running true false).engineAt .a).config.safeCallEnable = false
      ∧ ((s .stopping false false).engineAt .a).control = .stopping
      ∧ ((s .running false false).engineAt .a).control = .running
      ∧ ((s .running false false).engineAt .a).windDown = false := by
  decide

theorem witness_hand_over :
    let request := { called with kind := .request, descriptor := some 15 }
    let broadcast := { request with kind := .broadcast, station := none }
    Line.b ≠ Line.a ∧ called.station = some 0 ∧ called.station ≠ some 31 ∧ called.descriptor = none
      ∧ called.kind = .cyclic ∧ request.station = some 0 ∧ request.descriptor = some (15 : Fin 16)
      ∧ request.kind = .request ∧ broadcast.kind = .broadcast ∧ broadcast.station = none
      ∧ ({ called with kind := .safeCall, station := none } : Exchange).station = none := by
  decide

theorem witness_report :
    (31 : Fin 32) ≠ 0 ∧ classOf .busy = .success ∧ classOf .overlength = .failure ∧ classOf .lineFault = .neutral
      ∧ ((stationed 0 .a 0x11 .suspect State.reset).stationAt 0).health = .suspect
      ∧ (suspected.stationAt 0).failureCount + 1 = (suspected.stationAt 0).offlineLimit
      ∧ ((stationed 0 .a 0x11 .suspect State.reset).stationAt 0).failureCount + 1
        ≠ ((stationed 0 .a 0x11 .suspect State.reset).stationAt 0).offlineLimit := by
  decide

theorem witness_answers :
    State.reset.port.view ≠ some (.stationAnswer 31)
      ∧ (viewing (.stationAnswer 31) 0 State.reset).port.view = some (.stationAnswer 31)
      ∧ (State.reset.stationAt 31).publishPending = false
      ∧ ((State.reset.setStation 31 { Station.reset with publishPending := true }).stationAt 31).publishPending = true := by
  decide

theorem witness_post_request :
    let p := taken 0x30 0x1F0F 0x01FF 0x20FF 0
    let z := taken 0x30 0x4100 0x0000 0x0000 0
    let s := ask p (served .a .single .running (stationed 31 .a 0x3E .offline State.reset))
    let bad := taken 0x30 0x420F 0x0000 0x0000 0
    (ask bad State.reset).inProgress 0x30 = some bad ∧ (loByte bad.param0).toNat < 16
      ∧ ¬ ((hiByte bad.param0).toNat < 32 ∨ hiByte bad.param0 = 0x40 ∨ hiByte bad.param0 = 0x41)
      ∧ (hiByte p.param0).toNat < 32 ∧ hiByte z.param0 = 0x41
      ∧ s.inProgress 0x30 = some p ∧ fieldOf p.param0 0 8 = (15 : Fin 16).val
      ∧ hiByte p.param0 = targetCode (.station 31) ∧ (hiByte p.param1).toNat < 2 ∧ (hiByte p.param2).toNat ≤ 32
      ∧ (s.descriptorAt 15).state = .free ∧ (s.stationAt 31).defined = true ∧ (s.stationAt 31).health ≠ .disabled
      ∧ s.fifo .a .urgent = [] ∧ (s.engineAt .a).control = .running ∧ (s.engineAt .a).windDown = false
      ∧ (s.sweepAt .a).state = .between ∧ (s.engineAt .a).exchange = none ∧ (s.engineAt .a).config.mode ≠ .repeating
      ∧ hiByte z.param0 = targetCode (.broadcast .b) ∧ ((ask z State.reset).engineAt .b).control ≠ .running
      ∧ ((described 15 .done State.reset).descriptorAt 15).state = .done
      ∧ (State.reset.stationAt 31).defined = false
      ∧ ((stationed 31 .a 0x3E .disabled State.reset).stationAt 31).health = .disabled := by
  decide

theorem witness_requests_withdrawn :
    let cancel := taken 0x31 0x000F 0 0 0
    let collect := taken 0x33 0x000F 0 0 0
    let flush (word : Word) := taken 0x32 word 0 0 0
    16 ≤ fieldOf (taken 0x31 0x0010 0 0 0).param0 0 8
      ∧ (ask (taken 0x31 0x0010 0 0 0) State.reset).inProgress 0x31 = some (taken 0x31 0x0010 0 0 0)
      ∧ (ask (taken 0x33 0x0010 0 0 0) State.reset).inProgress 0x33 = some (taken 0x33 0x0010 0 0 0)
      ∧ (ask cancel State.reset).inProgress 0x31 = some cancel ∧ fieldOf cancel.param0 0 8 = (15 : Fin 16).val
      ∧ ((described 15 .queued State.reset).descriptorAt 15).state = .queued
      ∧ ((described 15 .active State.reset).descriptorAt 15).cancelRequested = false
      ∧ (ask collect State.reset).inProgress 0x33 = some collect
      ∧ (viewing (.requestAnswer 15) 0 (described 15 .done State.reset)).port.view = some (.requestAnswer 15)
      ∧ State.reset.port.view ≠ some (.requestCall 15)
      ∧ (ask (flush 0x0302) State.reset).inProgress 0x32 = some (flush 0x0302)
      ∧ 2 ≤ fieldOf (flush 0x0302).param0 0 8 ∧ loByte (flush 0x0401).param0 = lineCode .b
      ∧ 4 ≤ (hiByte (flush 0x0401).param0).toNat ∧ hiByte (flush 0x0101).param0 = 0x01
      ∧ hiByte (flush 0x0301).param0 = 0x03 := by
  decide

theorem witness_completed_descriptors :
    (if ((described 2 .active State.reset).descriptorAt 2).cancelRequested then ExchangeResult.cancelled else .good) = .good
      ∧ (15 : Fin 16) ≠ 2 := by
  decide

theorem witness_commit_call :
    let p := taken 0x40 0x001F 0 0 0
    let s (control : LineState) := ask p (served .b .single control (stationed 31 .b 0x3E .online State.reset))
    (ask (taken 0x40 0x0020 0 0 0) State.reset).inProgress 0x40 = some (taken 0x40 0x0020 0 0 0)
      ∧ 32 ≤ fieldOf (taken 0x40 0x0020 0 0 0).param0 0 8
      ∧ (s .halted).inProgress 0x40 = some p ∧ fieldOf p.param0 0 8 = (31 : Fin 32).val
      ∧ (State.reset.stationAt 31).defined = false ∧ ((s .halted).stationAt 31).defined = true
      ∧ ((s .halted).stationAt 31).commitPending = false ∧ (s .halted).port.view ≠ some (.stationCall 31)
      ∧ ((s .halted).engineAt .b).control = .halted ∧ ((s .stopping).engineAt .b).control = .stopping
      ∧ (viewing (.stationCall 31) 0 (s .running)).port.view = some (.stationCall 31) := by
  decide

theorem witness_views :
    let p (word : Word) := taken 0x41 word 0 0 0
    (ask (p 0x0009) State.reset).inProgress 0x41 = some (p 0x0009) ∧ 9 ≤ fieldOf (p 0x0009).param0 0 8
      ∧ fieldOf (p 0x2003).param0 0 8 = 3 ∧ 32 ≤ fieldOf (p 0x2003).param0 8 8
      ∧ fieldOf (p 0x1005).param0 0 8 = 5 ∧ 16 ≤ fieldOf (p 0x1005).param0 8 8
      ∧ fieldOf (p 0x0208).param0 0 8 = 8 ∧ 2 ≤ fieldOf (p 0x0208).param0 8 8
      ∧ loByte (p 0x0F04).param0 = (viewCodes (.requestCall 15)).1
      ∧ hiByte (p 0x0F04).param0 = (viewCodes (.requestCall 15)).2
      ∧ (ask (taken 0x42 0 0 0 0) State.reset).inProgress 0x42 = some (taken 0x42 0 0 0 0)
      ∧ (viewing (.stationAnswer 31) 0 State.reset).port.view = some (.stationAnswer 31)
      ∧ ((State.reset.setStation 31 { Station.reset with publishPending := true }).stationAt 31).publishPending = true
      ∧ State.reset.port.view ≠ some (.stationAnswer 31) := by
  decide

theorem witness_data_reads :
    let s := viewing (.sweepBuild .a) 255 State.reset
    let ahead : ReadAhead := { offset := 255, first := 0, second := 0 }
    let filled := { s with port := { s.port with readAhead := some ahead } }
    windowOpen s = true ∧ s.port.view = some (.sweepBuild .a) ∧ s.port.readAhead = none
      ∧ filled.port.readAhead = some ahead ∧ ahead.offset = filled.port.offset ∧ State.reset.port.view = none
      ∧ windowOpen State.reset = true := by
  decide

theorem witness_data_writes :
    let s (v : OpenView) (offset : Byte) := viewing v offset State.reset
    windowOpen (s (.stationCall 31) 0) = true ∧ (s (.stationCall 31) 32).port.view = some (.stationCall 31)
      ∧ (s (.safeCall .b) 33).port.view = some (.safeCall .b) ∧ (s (.sweepBuild .b) 144).port.offset.toNat < 145
      ∧ OpenView.stationCall 0 ≠ .stationCall 31 ∧ State.reset.port.view = none
      ∧ (after (.dataWrite .low 33) (s (.safeCall .b) 1)).store = State.reset.store
      ∧ (after (.dataWrite .low 32) (s (.safeCall .b) 1)).store ≠ State.reset.store := by
  decide +kernel

theorem witness_claims :
    let a := requestingState.arbiter
    let n := requestingState.events.records.length
    windowOpen requestingState = true ∧ a.conditionOf n .command = true ∧ a.levelOf .command ≠ 0
      ∧ a.service < a.levelOf .command
      ∧ (∀ src ∈ chain, a.conditionOf n src = true → a.levelOf src ≠ 0 → src = .command)
      ∧ ∀ src ∈ chain, State.reset.arbiter.conditionOf 0 src = true →
        State.reset.arbiter.levelOf src ≤ State.reset.arbiter.service := by
  decide

theorem witness_arbiter_accesses :
    windowOpen State.reset = true ∧ deepStack.stack.length ≤ 7 ∧ deepStack.stack = 6 :: [5, 4, 3, 2, 1, 0] ∧ State.reset.arbiter.stack = []
      ∧ Lanes.low ≠ .high ∧ Lanes.high ≠ .low ∧ (loByte 7).toNat < 8 ∧ 8 ≤ (loByte 8).toNat := by
  decide

theorem witness_supervision_set :
    let p (period : Word) := taken 0x50 period 0 0 0
    let winds (x : Line) (s : State) := s.modEngine x fun g => { g with windDown := true }
    (ask (p 256) State.reset).inProgress 0x50 = some (p 256) ∧ 256 ≤ (p 256).param0.toNat
      ∧ (p 255).param0.toNat ≤ 255 ∧ ((winds .a State.reset).engineAt .a).windDown = true
      ∧ ¬ ((winds .a State.reset).engineAt .b).windDown = true
      ∧ ((winds .b (winds .a State.reset)).engineAt .a).windDown = true
      ∧ ¬ (State.reset.engineAt .a).windDown = true ∧ windowOpen (ticking 1 1 1 1) = true
      ∧ (ticking 1 1 1 1).supervision.state = .armed ∧ State.reset.supervision.state ≠ .armed := by
  decide

theorem witness_expiry :
    let s := ticking 1 1 999 0
    let stopped := served .b .single .stopped s
    s.supervision.state = .armed ∧ s.supervision.countdown = 0 ∧ (ticking 1 1 999 1).supervision.countdown ≠ 0
      ∧ s.port.ready = true ∧ (s.engineAt .a).control = .running
      ∧ (s.engineAt .a).abortPending = false ∧ (s.engineAt .a).exchange ≠ none
      ∧ (stopped.engineAt .b).control = .stopped ∧ (stopped.engineAt .b).configured = true
      ∧ (stopped.engineAt .b).exState = .idle ∧ (stopped.engineAt .b).config.safeCallEnable = false
      ∧ ((stopped.setStation 31 { Station.reset with line := .b, commitPending := true }).stationAt 31).commitPending = true
      ∧ (s.engineAt .b).configured = false := by
  decide

theorem witness_command_writes :
    windowOpen State.reset = true ∧ State.reset.command.state ≠ .busy
      ∧ loByte (mergeLanes .word State.reset.command.cmd 0x0010) ≠ 0x5F
      ∧ loByte (mergeLanes .word State.reset.command.cmd 0x005F) = 0x5F
      ∧ (ask (taken 0x0F 0 0 0 0) State.reset).command.state = .busy
      ∧ loByte (taken 0x0F 0 0 0 0).code ∉ commandCodes
      ∧ (State.reset.engineAt .a).exState ≠ .calling ∧ (State.reset.engineAt .a).control ≠ .halted
      ∧ ((flying .calling called State.reset).engineAt .a).exState = .calling
      ∧ hasRowOfItsOwn 0x09 .high = false ∧ (0x09 : WindowAddress) ∉ [0x02#5, 0x03#5, 0x04#5, 0x05#5] := by
  decide

theorem witness_resets :
    let p := taken 0x5F 0 0 0 0
    let down := { State.reset with pins := { State.reset.pins with reset := .low } }
    let unready := { State.reset with port := { State.reset.port with ready := false } }
    (ask p State.reset).inProgress 0x5F = some p ∧ (State.reset.engineAt .a).driverEnable = false
      ∧ (State.reset.engineAt .b).driverEnable = false ∧ State.reset.pins.reset = .high ∧ down.pins.reset = .low
      ∧ unready.port.ready = false ∧ unready.pins.reset = .high ∧ unready.command.state = .idle := by
  decide

theorem witness_window_reads :
    ({ State.reset with pins := { State.reset.pins with reset := .low } } : State).pins.reset = .low
      ∧ State.reset.pins.reset = .high ∧ State.reset.port.ready = true ∧ State.reset.events.records = []
      ∧ (queued 1 0 State.reset).events.records = [someRecord] ∧ (0x1F : WindowAddress) ≠ 0x00
      ∧ State.reset.port.view = none ∧ (viewing (.requestAnswer 15) 0 State.reset).port.view = some (.requestAnswer 15)
      ∧ State.reset.arbiter.threshold < 64 := by
  decide

end Sys2Proof.Tests
end

section
/-! What each command does to the Station Table and the sweep lists. But for DEFINE_STATION, DROP_STATION, LOAD_SWEEP
and the resets a command is `Tabled`, and so is a microsecond; the two laws of the Station Table (R7, R15) follow. -/

namespace Sys2Proof.Machine

/-! ### Parameters -/

/-- Where no position is named every parameter is in range (R184). -/
theorem firstOutOfRange_none {l : List Bool} (h : firstOutOfRange l = none) : ∀ b ∈ l, b = true := by
  induction l with
  | nil => simp
  | cons a l ih =>
    unfold firstOutOfRange at h
    cases a with
    | false => simp at h
    | true => simpa using ih (by simpa using h)

/-! ### Completions -/

theorem completeCommand_tabled (code : Byte) (body : TakenCommand → State → Completion) (s : State)
    (h : ∀ p, Tabled s (body p s).state) : Tabled s (completeCommand code body s) := by
  unfold completeCommand
  split
  · exact finish_tabled _ (h _)
  · exact .rfl

theorem enableStation_tabled (p : TakenCommand) (s : State) : Tabled s (enableStation p s).state := by
  unfold enableStation
  dsimp only
  split
  · exact .rfl
  split
  · exact .rfl
  split
  · exact .rfl
  dsimp only
  refine .trans ?_ (post_tabled _ _)
  refine .setStation _ _ s (Eq.refl _) (Eq.refl _) (Eq.refl _) fun h => ?_
  obtain ⟨two, fifteen, _⟩ := h
  exact ⟨two, fifteen, Nat.lt_of_lt_of_le Nat.two_pos two⟩

theorem removeQueuedFor_tabled (s : State) (x : Line) (i : Fin 32) : Tabled s (removeQueuedFor s x i) :=
  .elsewhere (Eq.refl _) (Eq.refl _)

theorem disableStation_tabled (p : TakenCommand) (s : State) : Tabled s (disableStation p s).state := by
  unfold disableStation
  dsimp only
  split
  · exact .rfl
  split
  · exact .rfl
  refine .trans (.trans ?_ (removeQueuedFor_tabled _ _ _)) (completeAllQueued_tabled _ _ _)
  split
  · exact .rfl
  · refine .trans ?_ (post_tabled _ _)
    refine .setStation _ _ s (Eq.refl _) (Eq.refl _) (Eq.refl _) fun h => ?_
    exact ⟨h.1, h.2.1, Eq.refl _⟩

/-- New limits leave a record's definition (R20). -/
theorem limitsRecord_same (r : Station) (retry offline probe : Nat) :
    (limitsRecord r retry offline probe).defined = r.defined ∧ (limitsRecord r retry offline probe).line = r.line
      ∧ (limitsRecord r retry offline probe).address = r.address := by
  unfold limitsRecord
  cases r.health
  case probing | suspect => dsimp only; split <;> exact ⟨Eq.refl _, Eq.refl _, Eq.refl _⟩
  case disabled | online | offline => exact ⟨Eq.refl _, Eq.refl _, Eq.refl _⟩

/-- The law of the failure count holds through new limits in their range (R20, R21). -/
theorem limitsRecord_counts (r : Station) (retry offline probe : Nat) (two : 2 ≤ offline) (fifteen : offline ≤ 15)
    (h : r.countLawful) : (limitsRecord r retry offline probe).countLawful := by
  obtain ⟨_, _, count⟩ := h
  unfold limitsRecord
  cases hr : r.health <;> rw [hr] at count
  case probing | suspect =>
    dsimp only
    split
    · exact ⟨two, fifteen, Eq.refl _⟩
    · next low => simpa [Station.countLawful, hr, two, fifteen] using low
  case offline => simp [Station.countLawful, two, fifteen]
  case disabled | online => simpa [Station.countLawful, hr, two, fifteen] using count

theorem setStation_limitsRecord_tabled (i : Fin 32) (retry : Nat) {offline : Nat} (two : 2 ≤ offline)
    (fifteen : offline ≤ 15) (probe : Nat) (s : State) :
    Tabled s (s.setStation i (limitsRecord (s.stationAt i) retry offline probe)) := by
  obtain ⟨defined, line, address⟩ := limitsRecord_same (s.stationAt i) retry offline probe
  exact .setStation i _ s defined line address (limitsRecord_counts _ _ _ _ two fifteen)

theorem setStationLimits_tabled (p : TakenCommand) (s : State) : Tabled s (setStationLimits p s).state := by
  unfold setStationLimits
  dsimp only
  split
  · exact .rfl
  next inRange =>
  have limits : 2 ≤ fieldOf p.param2 0 8 ∧ fieldOf p.param2 0 8 ≤ 15 := by
    simpa using firstOutOfRange_none inRange (2 ≤ fieldOf p.param2 0 8 ∧ fieldOf p.param2 0 8 ≤ 15) (by simp)
  split
  · exact .rfl
  have stored := setStation_limitsRecord_tabled (stationOfNat (fieldOf p.param0 0 8)) (fieldOf p.param1 0 8) limits.1
    limits.2 (fieldOf p.param3 0 8) s
  dsimp only
  split
  · exact stored.trans (post_tabled _ _)
  · exact stored

theorem setLine_tabled (p : TakenCommand) (s : State) : Tabled s (setLine p s).state := by
  unfold setLine
  dsimp only
  split
  · exact .rfl
  split
  · exact .rfl
  · dsimp only
    exact (modEngine_tabled _ _ s).trans (.modSweep' _ _ _ (Eq.refl _) (Eq.refl _))

theorem setPeriod_tabled (p : TakenCommand) (s : State) : Tabled s (setPeriod p s).state := by
  unfold setPeriod
  dsimp only
  split
  · exact .rfl
  split
  all_goals
    dsimp only
    exact .modSweep' _ _ s (Eq.refl _) (Eq.refl _)

theorem startedLine_tabled (x : Line) (s : State) : Tabled s (startedLine x s) := by
  unfold startedLine
  exact ((modEngine_tabled x _ s).trans (.modSweep' x _ _ (Eq.refl _) (Eq.refl _))).trans (enterGuard_tabled x _)

theorem startLine_tabled (p : TakenCommand) (s : State) : Tabled s (startLine p s).state := by
  unfold startLine
  dsimp only
  split
  · exact .rfl
  split
  · exact .rfl
  split
  · exact .rfl
  split
  · exact .rfl
  dsimp only
  split
  · exact (startedLine_tabled _ s).trans (pickAndGive_tabled _ _)
  · exact (startedLine_tabled _ s).trans (sweepAndGive_tabled _ _)

theorem stopLine_tabled (p : TakenCommand) (s : State) : Tabled s (stopLine p s).state := by
  unfold stopLine
  dsimp only
  split
  · exact .rfl
  split
  · exact .rfl
  split
  · exact enterLine_tabled _ _ s
  · dsimp only
    exact modEngine_tabled _ _ s

theorem abortLine_tabled (p : TakenCommand) (s : State) : Tabled s (abortLine p s).state := by
  unfold abortLine
  dsimp only
  split
  · exact .rfl
  split
  · exact .rfl
  split
  · exact .rfl
  split
  · dsimp only
    exact modEngine_tabled _ _ s
  · exact endInto_tabled _ _ _ s

theorem sweepNow_tabled (p : TakenCommand) (s : State) : Tabled s (sweepNow p s).state := by
  unfold sweepNow
  dsimp only
  split
  · exact .rfl
  split
  · exact .rfl
  split
  · exact .rfl
  · exact cycleStart_tabled _ _ s

theorem enqueue_tabled (d : Fin 16) (t : Target) (f tag : Byte) (u : Urgency) (n : Nat) (s : State) :
    Tabled s (enqueue d t f tag u n s) := by
  unfold enqueue
  exact .elsewhere (by simp) (by simp)

theorem postRequest_tabled (p : TakenCommand) (s : State) : Tabled s (postRequest p s).state := by
  unfold postRequest
  dsimp only
  split
  · exact .rfl
  split
  · exact .rfl
  dsimp only
  split
  · exact (enqueue_tabled _ _ _ _ _ _ s).trans (pickAndGive_tabled _ _)
  · exact enqueue_tabled _ _ _ _ _ _ s

theorem cancelRequest_tabled (p : TakenCommand) (s : State) : Tabled s (cancelRequest p s).state := by
  unfold cancelRequest
  dsimp only
  split
  · exact .rfl
  split
  · exact .rfl
  · exact .rfl
  · exact .rfl
  · refine .trans ?_ (finishDescriptor_tabled _ _ _ _ _)
    exact .elsewhere (by simp [leaveFifo]) (by simp [leaveFifo])
  · split
    · exact .rfl
    · exact .elsewhere (Eq.refl _) (Eq.refl _)

theorem emptyFifos_tabled (x : Line) (which : Nat) (s : State) : Tabled s (emptyFifos x which s) := by
  unfold emptyFifos
  dsimp only
  split <;> split <;> exact .elsewhere (Eq.refl _) (Eq.refl _)

theorem flushRequests_tabled (p : TakenCommand) (s : State) : Tabled s (flushRequests p s).state := by
  unfold flushRequests
  dsimp only
  split
  · exact .rfl
  · exact (emptyFifos_tabled _ _ s).trans (completeAllQueued_tabled _ _ _)

theorem collectRequest_tabled (p : TakenCommand) (s : State) : Tabled s (collectRequest p s).state := by
  unfold collectRequest
  dsimp only
  repeat' split
  all_goals exact .elsewhere (Eq.refl _) (Eq.refl _)

theorem commitCall_tabled (p : TakenCommand) (s : State) : Tabled s (commitCall p s).state := by
  unfold commitCall
  dsimp only
  split
  · exact .rfl
  split
  · exact .rfl
  split
  · exact .rfl
  split
  · exact .rfl
  split
  · exact .elsewhere (Eq.refl _) (Eq.refl _)
  · exact .elsewhere (Eq.refl _) (Eq.refl _)
  · exact .setStation _ _ s (Eq.refl _) (Eq.refl _) (Eq.refl _) id
  · exact .setStation _ _ s (Eq.refl _) (Eq.refl _) (Eq.refl _) id

theorem reserveDescriptor_tabled (v : OpenView) (s : State) : Tabled s (reserveDescriptor v s) := by
  unfold reserveDescriptor
  split
  · split <;> exact .elsewhere (Eq.refl _) (Eq.refl _)
  · exact .rfl

theorem openView_tabled (p : TakenCommand) (s : State) : Tabled s (openView p s).state := by
  unfold openView
  split
  · exact .rfl
  split
  · exact .rfl
  · exact ((closeOpenView_tabled s).trans (reserveDescriptor_tabled _ _)).trans (.elsewhere (Eq.refl _) (Eq.refl _))

theorem setSupervision_tabled (p : TakenCommand) (s : State) : Tabled s (setSupervision p s).state := by
  unfold setSupervision
  dsimp only
  repeat' split
  all_goals exact .elsewhere (Eq.refl _) (Eq.refl _)

theorem unknownCommand_tabled (s : State) : Tabled s (unknownCommand s) := by
  unfold unknownCommand
  split
  · split
    · exact .rfl
    · exact finish_tabled _ .rfl
  · exact .rfl

/-! ### The window -/

/-- A guarded update, as every strobe through the window is one. -/
theorem ite_tabled {c : Prop} [Decidable c] {s t u : State} (ht : Tabled s t) (hu : Tabled s u) :
    Tabled s (if c then t else u) := by
  split
  · exact ht
  · exact hu

theorem takeCommand_tabled (cmd : Word) (s : State) : Tabled s (takeCommand cmd s) := by
  unfold takeCommand
  dsimp only
  split
  · refine .trans (.trans ?_ (endQuietly_tabled .a _)) (endQuietly_tabled .b _)
    exact .elsewhere (Eq.refl _) (Eq.refl _)
  · exact .elsewhere (Eq.refl _) (Eq.refl _)

theorem cmdWrite_tabled (lanes : Lanes) (data : Word) (s : State) : Tabled s (cmdWrite lanes data s) := by
  unfold cmdWrite
  dsimp only
  split
  · exact takeCommand_tabled _ s
  · exact takeCommand_tabled _ s
  · exact .elsewhere (Eq.refl _) (Eq.refl _)

theorem intClaim_tabled (lanes : Lanes) (s : State) : Tabled s (intClaim lanes s) := by
  unfold intClaim
  dsimp only
  split <;> exact .elsewhere (Eq.refl _) (Eq.refl _)

theorem intEos_tabled (s : State) : Tabled s (intEos s) := by
  unfold intEos
  split <;> exact .elsewhere (Eq.refl _) (Eq.refl _)

theorem intSvcWrite_tabled (lanes : Lanes) (data : Word) (s : State) : Tabled s (intSvcWrite lanes data s) :=
  ite_tabled (ite_tabled (.elsewhere (Eq.refl _) (Eq.refl _)) (.elsewhere (Eq.refl _) (Eq.refl _))) .rfl

theorem intStatusRead_tabled (lanes : Lanes) (s : State) : Tabled s (intStatusRead lanes s) :=
  ite_tabled (.elsewhere (Eq.refl _) (Eq.refl _)) (.elsewhere (Eq.refl _) (Eq.refl _))

theorem intPendWrite_tabled (lanes : Lanes) (data : Word) (s : State) : Tabled s (intPendWrite lanes data s) :=
  ite_tabled (.elsewhere (Eq.refl _) (Eq.refl _)) .rfl

theorem supvRefresh_tabled (s : State) : Tabled s (supvRefresh s) :=
  ite_tabled (.elsewhere (Eq.refl _) (Eq.refl _)) .rfl

theorem writePortByte_tabled (offset b : Byte) (s : State) : Tabled s (writePortByte offset b s) := by
  unfold writePortByte
  split <;> exact .elsewhere (Eq.refl _) (Eq.refl _)

theorem advanceOffset_tabled (lanes : Lanes) (s : State) : Tabled s (advanceOffset lanes s) :=
  ite_tabled (.elsewhere (Eq.refl _) (Eq.refl _)) .rfl

theorem driveData_tabled (lanes : Lanes) (value : Word) (s : State) : Tabled s (driveData lanes value s) :=
  .elsewhere (Eq.refl _) (Eq.refl _)

theorem dataRead_tabled (lanes : Lanes) (s : State) : Tabled s (dataRead lanes s) :=
  ite_tabled
    (((driveData_tabled lanes (aheadWord lanes (currentAhead s)) s).trans (advanceOffset_tabled lanes _)).trans
      (.elsewhere (Eq.refl _) (Eq.refl _)))
    (driveData_tabled lanes 0 s)

theorem dataWrite_tabled (lanes : Lanes) (data : Word) (s : State) : Tabled s (dataWrite lanes data s) := by
  unfold dataWrite
  split
  · refine .trans (.trans ?_ (advanceOffset_tabled lanes _)) (.elsewhere (Eq.refl _) (Eq.refl _))
    cases lanes
    · exact (writePortByte_tabled _ _ s).trans (writePortByte_tabled _ _ _)
    · exact writePortByte_tabled _ _ s
    · exact writePortByte_tabled _ _ s
  · exact .rfl

theorem viewOffsetWrite_tabled (lanes : Lanes) (data : Word) (s : State) : Tabled s (viewOffsetWrite lanes data s) :=
  ite_tabled (.elsewhere (Eq.refl _) (Eq.refl _)) .rfl

theorem windowWrite_tabled (address : WindowAddress) (lanes : Lanes) (data : Word) (s : State) :
    Tabled s (windowWrite address lanes data s) := by
  unfold windowWrite
  split
  · exact cmdWrite_tabled lanes data s
  · exact .elsewhere (Eq.refl _) (Eq.refl _)
  · exact .elsewhere (Eq.refl _) (Eq.refl _)
  · exact .elsewhere (Eq.refl _) (Eq.refl _)
  · exact .elsewhere (Eq.refl _) (Eq.refl _)
  · exact viewOffsetWrite_tabled lanes data s
  · exact dataWrite_tabled lanes data s
  · exact .elsewhere (Eq.refl _) (Eq.refl _)
  · exact intEos_tabled s
  · exact intSvcWrite_tabled lanes data s
  · exact intPendWrite_tabled lanes data s
  · exact .elsewhere (Eq.refl _) (Eq.refl _)
  · exact .elsewhere (Eq.refl _) (Eq.refl _)
  · exact supvRefresh_tabled s
  · exact .rfl

theorem readyAfterReset_tabled (s : State) : Tabled s (readyAfterReset s) :=
  ite_tabled (.elsewhere (Eq.refl _) (Eq.refl _)) .rfl

/-! ### Line events -/

theorem endTail_tabled (x : Line) (s : State) : Tabled s (endTail x s) :=
  ite_tabled (endInto_tabled x _ _ s) ((modEngine_tabled x _ s).trans (.modSweep' x _ _ (Eq.refl _) (Eq.refl _)))

theorem endCalling_tabled (x : Line) (e : Exchange) (s : State) : Tabled s (endCalling x e s) := by
  unfold endCalling
  dsimp only
  split <;> exact .elsewhere (Eq.refl _) (Eq.refl _)

theorem callFrameSent_tabled (x : Line) (s : State) : Tabled s (callFrameSent x s) := by
  unfold callFrameSent
  dsimp only
  split
  · exact ite_tabled (ite_tabled (endTail_tabled x s) (endCalling_tabled x _ s)) .rfl
  · exact .rfl

theorem abortTailEnd_tabled (x : Line) (s : State) : Tabled s (abortTailEnd x s) :=
  ite_tabled (endTail_tabled x s) .rfl

theorem startBitArrival_tabled (x : Line) (s : State) : Tabled s (startBitArrival x s) :=
  ite_tabled (ite_tabled (.elsewhere (Eq.refl _) (Eq.refl _)) (.elsewhere (Eq.refl _) (Eq.refl _))) .rfl

theorem pinReturnsHigh_tabled (x : Line) (s : State) : Tabled s (pinReturnsHigh x s) := by
  unfold pinReturnsHigh
  dsimp only
  repeat' split
  all_goals exact .elsewhere (Eq.refl _) (Eq.refl _)

theorem answerCharacter_tabled (x : Line) (e : Exchange) (data : Byte) (stop : Bool) (s : State) :
    Tabled s (answerCharacter x e data stop s) := by
  unfold answerCharacter
  dsimp only
  repeat' split
  all_goals exact .elsewhere (Eq.refl _) (Eq.refl _)

theorem endCharacter_tabled (x : Line) (data : Byte) (mark stop : Bool) (s : State) :
    Tabled s (endCharacter x data mark stop s) :=
  ite_tabled (.elsewhere (Eq.refl _) (Eq.refl _)) (.elsewhere (Eq.refl _) (Eq.refl _))

theorem characterReceived_tabled (x : Line) (data : Byte) (mark stop : Bool) (s : State) :
    Tabled s (characterReceived x data mark stop s) := by
  have ended := endCharacter_tabled x data mark stop s
  unfold characterReceived
  dsimp only
  split
  · refine ended.trans (ite_tabled (endInto_tabled x _ _ _) ?_)
    split
    · exact answerCharacter_tabled x _ data stop _
    all_goals exact .elsewhere (Eq.refl _) (Eq.refl _)
  · exact .rfl

theorem setRx_tabled (x : Line) (level : PinLevel) (s : State) : Tabled s (s.setRx x level) :=
  .elsewhere (Eq.refl _) (Eq.refl _)

theorem aheadOfEdges_tabled (x : Line) (e : FallingEdge) (effect : State → State) (s : State)
    (h : ∀ u, Tabled u (effect u)) : Tabled s (aheadOfEdges x e effect s) := by
  have landed := (((setRx_tabled x .high s).trans (modEngine_tabled x (fun g => g.rejected e) _)).trans (h _)).trans
    (setRx_tabled x (s.pins.rx.get x) _)
  unfold aheadOfEdges
  dsimp only
  split
  · exact landed
  · exact ite_tabled (landed.trans (modEngine_tabled x _ _)) landed

theorem spanReached_tabled (x : Line) (state : ExchangeState) (effect : State → State) (s : State)
    (h : ∀ u, Tabled u (effect u)) : Tabled s (spanReached x state effect s) := by
  unfold spanReached
  dsimp only
  split
  · exact ite_tabled (h s) .rfl
  · exact ite_tabled (ite_tabled (aheadOfEdges_tabled x _ effect s h) (modEngine_tabled x _ s)) .rfl

theorem breakDetected_tabled (x : Line) (s : State) : Tabled s (breakDetected x s) :=
  ite_tabled (endInto_tabled x _ _ s) .rfl

theorem cycleTimerExpiry_tabled (x : Line) (s : State) : Tabled s (cycleTimerExpiry x s) :=
  ite_tabled ((Tabled.modSweep' x _ s (Eq.refl _) (Eq.refl _)).trans (cycleStart_tabled x _ _)) .rfl

theorem syncFallingEdge_tabled (x : Line) (s : State) : Tabled s (syncFallingEdge x s) :=
  ite_tabled (cycleStart_tabled x _ s) .rfl

/-! ### The dispatch and time -/

/-- The commands that define, drop or reset stations, or load a sweep list. -/
def editsTables : Instr → Bool
  | .defineStation | .dropStation | .loadSweep | .softReset | .pinResetAssert | .pinResetRelease => true
  | _ => false

/-- Every other command keeps the Station Table's definitions and counts and lists no new slot. -/
theorem exec_tabled (c : Instr) (s : State) (h : editsTables c = false) : ∃ t, exec c s = .next t ∧ Tabled s t := by
  cases c with
  | defineStation | dropStation | loadSweep | softReset | pinResetAssert | pinResetRelease => exact nomatch h
  | enableStation => exact ⟨_, rfl, completeCommand_tabled _ _ s (enableStation_tabled · s)⟩
  | disableStation => exact ⟨_, rfl, completeCommand_tabled _ _ s (disableStation_tabled · s)⟩
  | setStationLimits => exact ⟨_, rfl, completeCommand_tabled _ _ s (setStationLimits_tabled · s)⟩
  | setLine => exact ⟨_, rfl, completeCommand_tabled _ _ s (setLine_tabled · s)⟩
  | setPeriod => exact ⟨_, rfl, completeCommand_tabled _ _ s (setPeriod_tabled · s)⟩
  | startLine => exact ⟨_, rfl, completeCommand_tabled _ _ s (startLine_tabled · s)⟩
  | stopLine => exact ⟨_, rfl, completeCommand_tabled _ _ s (stopLine_tabled · s)⟩
  | abortLine => exact ⟨_, rfl, completeCommand_tabled _ _ s (abortLine_tabled · s)⟩
  | sweepNow => exact ⟨_, rfl, completeCommand_tabled _ _ s (sweepNow_tabled · s)⟩
  | postRequest => exact ⟨_, rfl, completeCommand_tabled _ _ s (postRequest_tabled · s)⟩
  | cancelRequest => exact ⟨_, rfl, completeCommand_tabled _ _ s (cancelRequest_tabled · s)⟩
  | flushRequests => exact ⟨_, rfl, completeCommand_tabled _ _ s (flushRequests_tabled · s)⟩
  | collectRequest => exact ⟨_, rfl, completeCommand_tabled _ _ s (collectRequest_tabled · s)⟩
  | commitCall => exact ⟨_, rfl, completeCommand_tabled _ _ s (commitCall_tabled · s)⟩
  | openView => exact ⟨_, rfl, completeCommand_tabled _ _ s (openView_tabled · s)⟩
  | closeView => exact ⟨_, rfl, completeCommand_tabled _ _ s fun _ => closeOpenView_tabled s⟩
  | setSupervision => exact ⟨_, rfl, completeCommand_tabled _ _ s (setSupervision_tabled · s)⟩
  | unknownCommand => exact ⟨_, rfl, unknownCommand_tabled s⟩
  | commandCollision lanes data => exact ⟨_, rfl, ite_tabled (cmdWrite_tabled lanes data s) .rfl⟩
  | commandTake lanes data => exact ⟨_, rfl, ite_tabled (cmdWrite_tabled lanes data s) .rfl⟩
  | evtAdvance _ _ => exact ⟨_, rfl, ite_tabled (.elsewhere (Eq.refl _) (Eq.refl _)) .rfl⟩
  | intClaim lanes => exact ⟨_, rfl, ite_tabled (intClaim_tabled lanes s) (.elsewhere (Eq.refl _) (Eq.refl _))⟩
  | intEos _ _ => exact ⟨_, rfl, ite_tabled (intEos_tabled s) .rfl⟩
  | intSvcWrite lanes data => exact ⟨_, rfl, ite_tabled (intSvcWrite_tabled lanes data s) .rfl⟩
  | intStatusRead lanes =>
    exact ⟨_, rfl, ite_tabled (intStatusRead_tabled lanes s) (.elsewhere (Eq.refl _) (Eq.refl _))⟩
  | intPendWrite lanes data => exact ⟨_, rfl, ite_tabled (intPendWrite_tabled lanes data s) .rfl⟩
  | intLevelsWrite _ _ _ => exact ⟨_, rfl, ite_tabled (.elsewhere (Eq.refl _) (Eq.refl _)) .rfl⟩
  | supvRefresh _ _ => exact ⟨_, rfl, ite_tabled (supvRefresh_tabled s) .rfl⟩
  | dataRead lanes => exact ⟨_, rfl, ite_tabled (dataRead_tabled lanes s) (.elsewhere (Eq.refl _) (Eq.refl _))⟩
  | dataWrite lanes data => exact ⟨_, rfl, ite_tabled (dataWrite_tabled lanes data s) .rfl⟩
  | viewOffsetWrite lanes data => exact ⟨_, rfl, ite_tabled (viewOffsetWrite_tabled lanes data s) .rfl⟩
  | registerWrite address lanes data => exact ⟨_, rfl, ite_tabled (windowWrite_tabled address lanes data s) .rfl⟩
  | readyAfterReset => exact ⟨_, rfl, readyAfterReset_tabled s⟩
  | syncFallingEdge x => exact ⟨_, rfl, syncFallingEdge_tabled x s⟩
  | characterReceived x data mark stop => exact ⟨_, rfl, characterReceived_tabled x data mark stop s⟩
  | callFrameSent x => exact ⟨_, rfl, callFrameSent_tabled x s⟩
  | abortTailEnd x => exact ⟨_, rfl, abortTailEnd_tabled x s⟩
  | answerTimeout x => exact ⟨_, rfl, spanReached_tabled x _ _ s (closeAttempt_tabled x _)⟩
  | gapLimitExpiry x => exact ⟨_, rfl, spanReached_tabled x _ _ s (closeAttempt_tabled x _)⟩
  | drainSilenceEnd x => exact ⟨_, rfl, spanReached_tabled x _ _ s (enterGuard_tabled x)⟩
  | guardTimeExpiry x => exact ⟨_, rfl, spanReached_tabled x _ _ s (guardExpiry_tabled x)⟩
  | breakDetected x => exact ⟨_, rfl, breakDetected_tabled x s⟩
  | cycleTimerExpiry x => exact ⟨_, rfl, cycleTimerExpiry_tabled x s⟩
  | supervisionExpiry => exact ⟨_, rfl, supervisionExpiry_tabled s⟩
  | startBitArrival x => exact ⟨_, rfl, startBitArrival_tabled x s⟩
  | pinReturnsHigh x => exact ⟨_, rfl, pinReturnsHigh_tabled x s⟩

theorem enqueueDue_tabled : ∀ (cs : List Instr) (s : State), Tabled s (enqueueDue cs s)
  | [], _ => .rfl
  | _ :: rest, _ => by
    unfold enqueueDue
    refine .trans ?_ (enqueueDue_tabled rest _)
    exact .elsewhere (Eq.refl _) (Eq.refl _)

/-- A microsecond moves a Sweep Controller's counter alone (R42). -/
theorem SweepController.tick_eq (c : SweepController) :
    c.tick = { c with counter := if c.timerRunning then c.counter - 1 else c.counter } := by
  unfold SweepController.tick
  split <;> rfl

theorem tick_tabled (s : State) : Tabled s (tick s) := by
  unfold tick
  refine .trans ?_ (enqueueDue_tabled _ _)
  refine ⟨fun _ => ⟨Eq.refl _, Eq.refl _, Eq.refl _⟩, fun _ h => h, fun x slot h => ?_⟩
  cases x <;> simpa [State.listed, State.sweepAt, PerLine.get, SweepController.tick_eq] using h

/-- A step is a command carried out on the queue's rest, or a microsecond. -/
theorem step_cases {s t : State} (h : step s = .next t) :
    (∃ c rest, s.pending = c :: rest ∧ exec c { s with pending := rest } = .next t)
      ∨ s.pending = [] ∧ t = tick s := by
  unfold step at h
  split at h
  · next c rest hp => exact .inl ⟨c, rest, hp, h⟩
  · next hp =>
    cases h
    exact .inr ⟨hp, Eq.refl _⟩

/-- A property of the state that the queue does not enter, that every `Tabled` change keeps and that the commands which
edit the tables keep, is kept by every step. -/
theorem step_keeps_of_tabled {P : State → Prop} (queue : ∀ s rest, P s → P { s with pending := rest })
    (tabled : ∀ s t, Tabled s t → P s → P t)
    (edits : ∀ c s t, editsTables c = true → exec c s = .next t → P s → P t)
    {s t : State} (h : step s = .next t) (hs : P s) : P t := by
  obtain ⟨c, rest, _, ran⟩ | ⟨_, rfl⟩ := step_cases h
  · cases hc : editsTables c with
    | true => exact edits c _ t hc ran (queue s rest hs)
    | false =>
      obtain ⟨u, hu, kept⟩ := exec_tabled c { s with pending := rest } hc
      rw [ran] at hu
      cases hu
      exact tabled _ t kept (queue s rest hs)
  · exact tabled s _ (tick_tabled s) hs

end Sys2Proof.Machine
end

section
/-! The station commands (R15 to R21): what each gives on its branches, what they and the resets do to the Station Table,
and the two laws of that table (R7, R15). -/

namespace Sys2Proof.Machine

/-! ### Completions and parameters -/

/-- A command in progress answers next with what its body gives, completed (R182). -/
theorem next_completeCommand {s : State} {code : Byte} {p : TakenCommand} {body : TakenCommand → State → Completion}
    {c : Completion} (h : s.inProgress code = some p) (hb : body p s = c) :
    (.next (completeCommand code body s) : Host.Outcome State Fault Refusal) =
      .next (c.state.completed c.result c.detail) := by
  rw [completeCommand_of_inProgress h, hb]

/-- The first parameter out of range is named by its position (R184): `P k` says that parameter `k` is in range. -/
theorem firstOutOfRange_eq_some {l : List Bool} {P : Nat → Prop} {position : Nat}
    (hl : ∀ k (hk : k < l.length), l[k] = true ↔ P (k + 1)) (low : 1 ≤ position) (high : position ≤ l.length)
    (before : ∀ k, k < position → P k) (bad : ¬ P position) : firstOutOfRange l = some position := by
  induction l generalizing P position with
  | nil => exact absurd low (by simpa using high)
  | cons a l ih =>
    have first : a = true ↔ P 1 := hl 0 (by simp)
    unfold firstOutOfRange
    match position with
    | 1 => rw [if_neg (mt first.1 bad)]
    | n + 2 =>
      have rest : firstOutOfRange l = some (n + 1) :=
        ih (P := fun k => P (k + 1)) (fun k hk => hl (k + 1) (by simpa using hk)) (by omega) (by simpa using high)
          (fun k hk => before (k + 1) (by omega)) bad
      rw [if_pos (first.2 (before 1 (by omega))), rest]
      rfl

theorem stationOfNat_eq {n : Nat} {i : Fin 32} (h : n = i.val) : stationOfNat n = i := by
  rw [h, stationOfNat_val]

theorem lineOfNat_eq {b : Byte} {x : Line} (h : b = lineCode x) : lineOfNat b.toNat = x := by
  rw [h, lineOfNat_lineCode]

/-! ### DEFINE_STATION (R15) -/

theorem addressHolder_eq_none {s : State} {x : Line} {b : Byte} :
    addressHolder s x b = none ↔
      ∀ j, (s.stationAt j).defined = true → (s.stationAt j).line = x → (s.stationAt j).address ≠ some b := by
  simp [addressHolder, List.find?_eq_none]

/-- The one holder of an address is the one named (R15 check 3). -/
theorem addressHolder_eq_some {s : State} {x : Line} {b : Byte} {j : Fin 32} (defined : (s.stationAt j).defined = true)
    (line : (s.stationAt j).line = x) (address : (s.stationAt j).address = some b)
    (only : ∀ k, (s.stationAt k).defined = true ∧ (s.stationAt k).line = x ∧ (s.stationAt k).address = some b → k = j) :
    addressHolder s x b = some j := by
  cases found : addressHolder s x b with
  | none => exact absurd address (addressHolder_eq_none.1 found j defined line)
  | some k =>
    have holds := List.find?_some found
    simp only [Bool.and_eq_true, decide_eq_true_eq] at holds
    rw [only k ⟨holds.1.1, holds.1.2, holds.2⟩]

/-- The eight parameters of DEFINE_STATION, each in range (R15, R189). -/
def defineInRange (p : TakenCommand) : List Bool :=
  [fieldOf p.param0 0 8 < 32, fieldOf p.param0 8 8 < 2, 1 ≤ fieldOf p.param1 0 8 ∧ fieldOf p.param1 0 8 ≤ 62, true,
    fieldOf p.param2 0 8 ≤ 3, 2 ≤ fieldOf p.param2 8 8 ∧ fieldOf p.param2 8 8 ≤ 15, 1 ≤ fieldOf p.param3 0 8,
    fieldOf p.param3 8 8 < 2]

/-- The record that a DEFINE_STATION's parameters name (R15). -/
def TakenCommand.record (p : TakenCommand) : Station :=
  definedRecord (lineOfNat (fieldOf p.param0 8 8)) (loByte p.param1) (hiByte p.param1) (fieldOf p.param2 0 8)
    (fieldOf p.param2 8 8) (fieldOf p.param3 0 8) (fieldOf p.param3 8 8 = 1)

theorem defineStation_badParam {p : TakenCommand} {s : State} {position : Nat}
    (h : firstOutOfRange (defineInRange p) = some position) : defineStation p s = refuse s .badParam position := by
  unfold defineStation
  unfold defineInRange at h
  simp only [h]

theorem defineStation_wrongState {p : TakenCommand} {s : State} (h : firstOutOfRange (defineInRange p) = none)
    (hd : (s.stationAt (stationOfNat (fieldOf p.param0 0 8))).defined = true) :
    defineStation p s = refuse s .wrongState 0 := by
  unfold defineStation
  unfold defineInRange at h
  simp only [h, hd, if_true]

theorem defineStation_duplicateAddress {p : TakenCommand} {s : State} {j : Fin 32}
    (h : firstOutOfRange (defineInRange p) = none)
    (hd : (s.stationAt (stationOfNat (fieldOf p.param0 0 8))).defined = false)
    (held : addressHolder s (lineOfNat (fieldOf p.param0 8 8)) (loByte p.param1) = some j) :
    defineStation p s = refuse s .duplicateAddress j.val := by
  unfold defineStation
  unfold defineInRange at h
  simp only [h, hd, held, Bool.false_eq_true, if_false]

theorem defineStation_ok {p : TakenCommand} {s : State} {i : Fin 32} {x : Line}
    (h : firstOutOfRange (defineInRange p) = none) (hi : stationOfNat (fieldOf p.param0 0 8) = i)
    (hx : lineOfNat (fieldOf p.param0 8 8) = x) (hd : (s.stationAt i).defined = false)
    (free : addressHolder s x (loByte p.param1) = none) :
    defineStation p s =
      { state := if fieldOf p.param3 8 8 = 1 then
            post (stationStateRecord s i x .probing .disabled) ((clearStationData i s).setStation i p.record)
          else (clearStationData i s).setStation i p.record,
        result := .ok, detail := 0 } := by
  subst hi hx
  unfold defineStation
  unfold defineInRange at h
  simp only [h, hd, free, Bool.false_eq_true, if_false, TakenCommand.record]

/-! ### What the commands do to the Station Table -/

/-- What a command that edits the tables can do to the Station Table: nothing, one record dropped, one defined whose
parameters are in range and whose address is free on its line, or every record reset. -/
inductive StationEdit (s : State) : State → Prop
  | kept {t : State} (h : t.stations = s.stations) : StationEdit s t
  | dropped {t : State} (i : Fin 32) (h : t.stations = (s.setStation i Station.reset).stations) : StationEdit s t
  | defined {t : State} (p : TakenCommand) (i : Fin 32) (inRange : firstOutOfRange (defineInRange p) = none)
      (free : addressHolder s p.record.line (loByte p.param1) = none)
      (h : t.stations = (s.setStation i p.record).stations) : StationEdit s t
  | reset {t : State} (h : t.stations = State.reset.stations) : StationEdit s t

theorem StationEdit.of_stations {s t u : State} (h : StationEdit s t) (hu : u.stations = t.stations) :
    StationEdit s u := by
  cases h with
  | kept h => exact .kept (hu.trans h)
  | dropped i h => exact .dropped i (hu.trans h)
  | defined p i inRange free h => exact .defined p i inRange free (hu.trans h)
  | reset h => exact .reset (hu.trans h)

theorem completeCommand_edit (code : Byte) (body : TakenCommand → State → Completion) (s : State)
    (h : ∀ p, StationEdit s (body p s).state) : StationEdit s (completeCommand code body s) := by
  unfold completeCommand
  split
  · exact (h _).of_stations (finish_stations _)
  · exact .kept rfl

theorem defineStation_edit (p : TakenCommand) (s : State) : StationEdit s (defineStation p s).state := by
  cases inRange : firstOutOfRange (defineInRange p) with
  | some position => rw [defineStation_badParam inRange]; exact .kept rfl
  | none =>
    cases hd : (s.stationAt (stationOfNat (fieldOf p.param0 0 8))).defined with
    | true => rw [defineStation_wrongState inRange hd]; exact .kept rfl
    | false =>
      cases free : addressHolder s (lineOfNat (fieldOf p.param0 8 8)) (loByte p.param1) with
      | some j => rw [defineStation_duplicateAddress inRange hd free]; exact .kept rfl
      | none =>
        rw [defineStation_ok inRange rfl rfl hd free]
        refine .defined p (stationOfNat (fieldOf p.param0 0 8)) inRange free ?_
        dsimp only
        split <;> rfl

theorem dropStation_edit (p : TakenCommand) (s : State) : StationEdit s (dropStation p s).state := by
  unfold dropStation
  dsimp only
  split
  · exact .kept rfl
  split
  · exact .kept rfl
  split
  · exact .kept rfl
  split
  · exact .kept rfl
  split
  · exact .kept rfl
  · refine .dropped (stationOfNat (fieldOf p.param0 0 8)) ?_
    dsimp only
    split <;> rfl

theorem loadSweep_edit (p : TakenCommand) (s : State) : StationEdit s (loadSweep p s).state := by
  unfold loadSweep
  dsimp only
  split
  · exact .kept rfl
  split
  · exact .kept rfl
  split
  · exact .kept rfl
  split <;> exact .kept rfl

theorem softReset_edit (s : State) : StationEdit s (softReset s) := by
  unfold softReset
  split
  · exact .reset rfl
  · exact .kept rfl

theorem pinResetAssert_edit (s : State) : StationEdit s (pinResetAssert s) := by
  unfold pinResetAssert
  split
  · exact .reset rfl
  · exact .kept rfl

theorem pinResetRelease_edit (s : State) : StationEdit s (pinResetRelease s) := by
  unfold pinResetRelease
  split
  · exact .reset rfl
  · exact .kept rfl

theorem exec_edit (c : Instr) (s : State) (h : editsTables c = true) :
    ∃ t, exec c s = .next t ∧ StationEdit s t := by
  cases c with
  | defineStation => exact ⟨_, rfl, completeCommand_edit _ _ s (defineStation_edit · s)⟩
  | dropStation => exact ⟨_, rfl, completeCommand_edit _ _ s (dropStation_edit · s)⟩
  | loadSweep => exact ⟨_, rfl, completeCommand_edit _ _ s (loadSweep_edit · s)⟩
  | softReset => exact ⟨_, rfl, softReset_edit s⟩
  | pinResetAssert => exact ⟨_, rfl, pinResetAssert_edit s⟩
  | pinResetRelease => exact ⟨_, rfl, pinResetRelease_edit s⟩
  | _ => exact nomatch h

/-- A property of the Station Table that every `Tabled` change and every edit keeps is kept by every step. -/
theorem step_keeps_of_edit {P : State → Prop} (table : ∀ s t, t.stations = s.stations → P s → P t)
    (tabled : ∀ s t, Tabled s t → P s → P t) (edit : ∀ s t, StationEdit s t → P s → P t)
    {s t : State} (h : step s = .next t) (hs : P s) : P t := by
  refine step_keeps_of_tabled (fun s rest => table s _ rfl) tabled (fun c s t hc ran hs => ?_) h hs
  obtain ⟨u, hu, edited⟩ := exec_edit c s hc
  rw [ran] at hu
  cases hu
  exact edit s _ edited hs

/-! ### The law of the failure count (R7) -/

theorem stationAt_congr {s t : State} (h : t.stations = s.stations) (i : Fin 32) : t.stationAt i = s.stationAt i := by
  simp only [State.stationAt, h]

theorem countsLawful_congr {s t : State} (h : t.stations = s.stations) (hs : countsLawful s) : countsLawful t :=
  fun i => stationAt_congr h i ▸ hs i

theorem Tabled.countsLawful {s t : State} (h : Tabled s t) (hs : countsLawful s) : countsLawful t :=
  fun i => h.counts i (hs i)

@[simp] theorem reset_stationAt (i : Fin 32) : State.reset.stationAt i = Station.reset := by
  simp [State.stationAt, State.reset]

theorem Station.reset_countLawful : Station.reset.countLawful := by simp [Station.countLawful, Station.reset]

theorem countsLawful_reset : countsLawful State.reset := fun i => by
  rw [reset_stationAt]
  exact Station.reset_countLawful

theorem countsLawful_setStation {s : State} {i : Fin 32} {r : Station} (hs : countsLawful s) (hr : r.countLawful) :
    countsLawful (s.setStation i r) := fun j => by
  rw [stationAt_setStation]
  split
  · exact hr
  · exact hs j

theorem record_countLawful {p : TakenCommand} (h : firstOutOfRange (defineInRange p) = none) :
    p.record.countLawful := by
  have limits : 2 ≤ fieldOf p.param2 8 8 ∧ fieldOf p.param2 8 8 ≤ 15 := by
    simpa using firstOutOfRange_none h (2 ≤ fieldOf p.param2 8 8 ∧ fieldOf p.param2 8 8 ≤ 15) (by simp [defineInRange])
  obtain ⟨two, fifteen⟩ := limits
  refine ⟨two, fifteen, ?_⟩
  dsimp only [TakenCommand.record, definedRecord]
  split
  · rfl
  · rfl
  · exact Nat.lt_of_lt_of_le Nat.two_pos two
  · exact Nat.lt_of_lt_of_le Nat.two_pos two
  · next off => split at off <;> cases off

theorem StationEdit.countsLawful {s t : State} (h : StationEdit s t) (hs : countsLawful s) : countsLawful t := by
  cases h with
  | kept h => exact countsLawful_congr h hs
  | dropped i h => exact countsLawful_congr h (countsLawful_setStation hs Station.reset_countLawful)
  | defined p i inRange free h => exact countsLawful_congr h (countsLawful_setStation hs (record_countLawful inRange))
  | reset h => exact countsLawful_congr h countsLawful_reset

/-- Settles O9: an edit writes lawful records, and every other change keeps a lawful record lawful. -/
theorem failureCountLawKept : Obligations.FailureCountLawKept :=
  fun _ _ h hs => step_keeps_of_edit (P := countsLawful) (fun _ _ => countsLawful_congr) (fun _ _ => Tabled.countsLawful)
    (fun _ _ => StationEdit.countsLawful) h hs

/-! ### The law of station addresses (R15) -/

theorem addressesLawful_congr {s t : State} (h : t.stations = s.stations) (hs : addressesLawful s) :
    addressesLawful t := by
  unfold addressesLawful at hs ⊢
  simpa only [stationAt_congr h] using hs

theorem Tabled.addressesLawful {s t : State} (h : Tabled s t) (hs : addressesLawful s) : addressesLawful t := by
  obtain ⟨range, unique⟩ := hs
  have defined i := (h.same i).1
  have line i := (h.same i).2.1
  have address i := (h.same i).2.2
  constructor
  · intro i
    rw [defined, address]
    exact range i
  · intro i j
    rw [defined, defined, line, line, address, address]
    exact unique i j

theorem addressesLawful_reset : addressesLawful State.reset := by
  simp [addressesLawful, Station.reset]

/-- A record dropped leaves the addresses of the others. -/
theorem addressesLawful_drop {s : State} (i : Fin 32) (hs : addressesLawful s) :
    addressesLawful (s.setStation i Station.reset) := by
  obtain ⟨range, unique⟩ := hs
  have kept : ∀ j, ((s.setStation i Station.reset).stationAt j).defined = true →
      (s.setStation i Station.reset).stationAt j = s.stationAt j := fun j hj => by
    rw [stationAt_setStation] at hj ⊢
    split
    · next same => rw [if_pos same] at hj; exact nomatch hj
    · rfl
  constructor
  · intro j hj
    have same := kept j hj
    rw [same] at hj ⊢
    exact range j hj
  · intro j k hj hk
    have same := kept j hj
    have same' := kept k hk
    rw [same] at hj ⊢
    rw [same'] at hk ⊢
    exact unique j k hj hk

/-- A record defined with an address in range that is free on its line. -/
theorem addressesLawful_define {s : State} {i : Fin 32} {r : Station} {b : Byte} (hs : addressesLawful s)
    (address : r.address = some b) (low : 1 ≤ b.toNat) (high : b.toNat ≤ 62) (free : addressHolder s r.line b = none) :
    addressesLawful (s.setStation i r) := by
  obtain ⟨range, unique⟩ := hs
  have other : ∀ j, (s.stationAt j).defined = true → r.line = (s.stationAt j).line →
      r.address ≠ (s.stationAt j).address := fun j hj line same =>
    addressHolder_eq_none.1 free j hj line.symm (same.symm.trans address)
  constructor
  · intro j
    rw [stationAt_setStation]
    split
    · exact fun _ => ⟨b, address, low, high⟩
    · exact range j
  · intro j k
    rw [stationAt_setStation, stationAt_setStation]
    split <;> split
    · next hj hk => exact fun _ _ _ _ => hj.trans hk.symm
    · exact fun _ hk line same => absurd same (other k hk line)
    · exact fun hj _ line same => absurd same.symm (other j hj line.symm)
    · exact unique j k

theorem StationEdit.addressesLawful {s t : State} (h : StationEdit s t) (hs : addressesLawful s) : addressesLawful t := by
  cases h with
  | kept h => exact addressesLawful_congr h hs
  | dropped i h => exact addressesLawful_congr h (addressesLawful_drop i hs)
  | defined p i inRange free h =>
    have range : 1 ≤ fieldOf p.param1 0 8 ∧ fieldOf p.param1 0 8 ≤ 62 := by
      simpa using firstOutOfRange_none inRange (1 ≤ fieldOf p.param1 0 8 ∧ fieldOf p.param1 0 8 ≤ 62)
        (by simp [defineInRange])
    exact addressesLawful_congr h (addressesLawful_define hs rfl range.1 range.2 free)
  | reset h => exact addressesLawful_congr h addressesLawful_reset

/-- Settles O10: an address is only ever defined in range and free on its line. -/
theorem addressLawKept : Obligations.AddressLawKept :=
  fun _ _ h hs => step_keeps_of_edit (P := addressesLawful) (fun _ _ => addressesLawful_congr)
    (fun _ _ => Tabled.addressesLawful) (fun _ _ => StationEdit.addressesLawful) h hs

end Sys2Proof.Machine
end

section
/-! The results of the station commands: what each does once its checks pass (R15 to R21), and what it refuses in the
order of its rule (R3, R184). -/

namespace Sys2Proof.Machine

/-! ### The checks that four commands begin with (R3) -/

/-- The body of a command whose first parameter is a station index, and whose first two checks are BAD_PARAM 1 for the
index and NOT_DEFINED for the record (R3). -/
def ChecksStation (body : TakenCommand → State → Completion) : Prop :=
  ∀ (p : TakenCommand) (s : State),
    (32 ≤ fieldOf p.param0 0 8 → body p s = refuse s .badParam 1)
      ∧ (fieldOf p.param0 0 8 < 32 → (s.stationAt (stationOfNat (fieldOf p.param0 0 8))).defined = false →
        body p s = refuse s .notDefined 0)

theorem dropStation_checks : ChecksStation dropStation := fun p s => by
  unfold dropStation
  exact ⟨fun h => if_pos (Nat.not_lt.2 h), fun h hd => (if_neg (not_not_intro h)).trans (if_pos hd)⟩

theorem enableStation_checks : ChecksStation enableStation := fun p s => by
  unfold enableStation
  exact ⟨fun h => if_pos (Nat.not_lt.2 h), fun h hd => (if_neg (not_not_intro h)).trans (if_pos hd)⟩

theorem disableStation_checks : ChecksStation disableStation := fun p s => by
  unfold disableStation
  exact ⟨fun h => if_pos (Nat.not_lt.2 h), fun h hd => (if_neg (not_not_intro h)).trans (if_pos hd)⟩

theorem commitCall_checks : ChecksStation commitCall := fun p s => by
  unfold commitCall
  exact ⟨fun h => if_pos (Nat.not_lt.2 h), fun h hd => (if_neg (not_not_intro h)).trans (if_pos hd)⟩

/-- What such a command refuses, at its completion. -/
theorem ChecksStation.refuses {body : TakenCommand → State → Completion} (h : ChecksStation body) {code : Byte}
    {s : State} {p : TakenCommand} (taken : s.inProgress code = some p) :
    (32 ≤ fieldOf p.param0 0 8 →
        (.next (completeCommand code body s) : Host.Outcome State Fault Refusal) = .next (s.completed .badParam 1))
      ∧ ∀ i : Fin 32, fieldOf p.param0 0 8 = i.val → (s.stationAt i).defined = false →
        (.next (completeCommand code body s) : Host.Outcome State Fault Refusal) = .next (s.completed .notDefined 0) := by
  obtain ⟨range, undefined⟩ := h p s
  refine ⟨fun high => next_completeCommand taken (range high), fun i index hd => ?_⟩
  rw [← stationOfNat_eq index] at hd
  exact next_completeCommand taken (undefined (index ▸ i.isLt) hd)

/-! ### DEFINE_STATION (R15) -/

theorem yesNo_toNat (b : Bool) : (yesNo b).toNat = if b then 1 else 0 := by cases b <;> rfl

theorem defineInRange_none {p : TakenCommand} (index : fieldOf p.param0 0 8 < 32) (line : fieldOf p.param0 8 8 < 2)
    (low : 1 ≤ fieldOf p.param1 0 8) (high : fieldOf p.param1 0 8 ≤ 62) (retry : fieldOf p.param2 0 8 ≤ 3)
    (two : 2 ≤ fieldOf p.param2 8 8) (fifteen : fieldOf p.param2 8 8 ≤ 15) (probe : 1 ≤ fieldOf p.param3 0 8)
    (enable : fieldOf p.param3 8 8 < 2) : firstOutOfRange (defineInRange p) = none :=
  firstOutOfRange_eq_none (by
    simp only [defineInRange, List.forall_mem_cons, decide_eq_true_eq]
    exact ⟨index, line, ⟨low, high⟩, trivial, retry, ⟨two, fifteen⟩, probe, enable, by simp⟩)

/-- A station's data cleared and its record set: the two updates of the Data Store and the one of the Station Table. -/
theorem clearStationData_setStation (i : Fin 32) (r : Station) (s : State) :
    (clearStationData i s).setStation i r =
      ((s.setStation i r).setCallPair i
        { s.callPairAt i with first := CallBuffer.reset, second := CallBuffer.reset }).setAnswerPair i
        { s.answerPairAt i with first := AnswerBuffer.reset, second := AnswerBuffer.reset } := rfl

/-- Settles O16: all eight parameters are in range, so DEFINE_STATION takes its accepting branch. -/
theorem defineStationDefines : Obligations.DefineStationDefines := by
  intro s p i x enable taken index line low high retry two fifteen probe enabled undefined free
  have flag : fieldOf p.param3 8 8 = if enable then 1 else 0 := by rw [fieldOf_high, enabled, yesNo_toNat]
  have lineRange : fieldOf p.param0 8 8 < 2 := by rw [fieldOf_high, line]; exact lineCode_lt x
  have flagRange : fieldOf p.param3 8 8 < 2 := by rw [flag]; split <;> decide
  have inRange := defineInRange_none (index ▸ i.isLt) lineRange low high retry two fifteen probe flagRange
  have hx : lineOfNat (fieldOf p.param0 8 8) = x := lineOfNat_eq line
  have record : p.record = definedRecord x (loByte p.param1) (hiByte p.param1) (loByte p.param2).toNat
      (hiByte p.param2).toNat (loByte p.param3).toNat enable := by
    unfold TakenCommand.record
    rw [hx, flag]
    cases enable <;> rfl
  have body := defineStation_ok inRange (stationOfNat_eq index) hx undefined (addressHolder_eq_none.2 free)
  rw [clearStationData_setStation, record, flag] at body
  refine (next_completeCommand taken body).trans ?_
  cases enable <;> rfl

/-! ### DROP_STATION (R16) -/

theorem namedBySweep_iff {s : State} {x : Line} {i : Fin 32} :
    namedBySweep s x i = true ↔ ∃ slot ∈ (s.sweepAt x).live ++ (s.sweepAt x).shadow.getD [], slot.station = i := by
  simp [namedBySweep, or_and_right, exists_or]

theorem namedByRequest_iff {s : State} {i : Fin 32} :
    namedByRequest s i = true ↔ ∃ d, (s.descriptorAt d).target = some (.station i)
      ∧ ((s.descriptorAt d).state = .queued ∨ (s.descriptorAt d).state = .active) := by
  simp [namedByRequest]

theorem viewedStation_iff {s : State} {i : Fin 32} :
    viewedStation s i = true ↔ s.port.view = some (.stationCall i) ∨ s.port.view = some (.stationAnswer i)
      ∨ s.port.view = some (.stationInfo i) := by
  simp [viewedStation, or_assoc]

/-- The checks and effects of DROP_STATION on a defined station (R16). -/
theorem dropStation_defined {p : TakenCommand} {s : State} {i : Fin 32} (index : fieldOf p.param0 0 8 = i.val)
    (defined : (s.stationAt i).defined = true) :
    dropStation p s =
      if namedBySweep s (s.stationAt i).line i then refuse s .inUse 1
      else if namedByRequest s i then refuse s .inUse 2
      else if viewedStation s i then refuse s .inUse 3
      else
        { state := if (s.stationAt i).health ≠ .disabled then
              post (stationStateRecord s i (s.stationAt i).line .disabled (s.stationAt i).health)
                (s.setStation i Station.reset)
            else s.setStation i Station.reset,
          result := .ok, detail := 0 } := by
  unfold dropStation
  simp only [index, stationOfNat_val, i.isLt, not_true_eq_false, defined, Bool.true_eq_false, if_false]

/-- Settles O17: no check of DROP_STATION finds a use. -/
theorem dropStationDrops : Obligations.DropStationDrops := by
  intro s p i taken index defined unlisted unasked call answer info
  have notListed : ¬ namedBySweep s (s.stationAt i).line i = true := fun h => by
    obtain ⟨slot, listed, named⟩ := namedBySweep_iff.1 h
    exact unlisted slot listed named
  have notAsked : ¬ namedByRequest s i = true := fun h => by
    obtain ⟨d, target, state⟩ := namedByRequest_iff.1 h
    exact state.elim (unasked d target).1 (unasked d target).2
  have notViewed : ¬ viewedStation s i = true := fun h => by
    obtain h | h | h := viewedStation_iff.1 h
    · exact call h
    · exact answer h
    · exact info h
  have body := dropStation_defined index defined
  rw [if_neg notListed, if_neg notAsked, if_neg notViewed] at body
  refine (next_completeCommand taken body).trans ?_
  dsimp only
  by_cases disabled : (s.stationAt i).health = .disabled
  · rw [if_pos disabled, if_neg (not_not_intro disabled)]
  · rw [if_neg disabled, if_pos disabled]
    rfl

/-! ### ENABLE_STATION and DISABLE_STATION (R17, R18) -/

/-- The checks and effects of ENABLE_STATION on a defined station (R17). -/
theorem enableStation_defined {p : TakenCommand} {s : State} {i : Fin 32} (index : fieldOf p.param0 0 8 = i.val)
    (defined : (s.stationAt i).defined = true) :
    enableStation p s =
      if (s.stationAt i).health ≠ .disabled then refuse s .wrongState 0
      else
        { state := post (stationStateRecord s i (s.stationAt i).line .probing .disabled)
            (s.setStation i { s.stationAt i with health := .probing, failureCount := 0 }),
          result := .ok, detail := 0 } := by
  unfold enableStation
  simp only [index, stationOfNat_val, i.isLt, not_true_eq_false, defined, Bool.true_eq_false, if_false]

/-- Settles O18: the three branches of ENABLE_STATION behind its index. -/
theorem enableStationProbes : Obligations.EnableStationProbes := by
  intro s p i taken index
  refine ⟨fun defined disabled => ?_, fun defined enabled => ?_, fun undefined => ?_⟩
  · have body := (enableStation_defined index defined).trans (if_neg (not_not_intro disabled))
    exact next_completeCommand taken body
  · have body := (enableStation_defined index defined).trans (if_pos enabled)
    exact next_completeCommand taken body
  · exact (enableStation_checks.refuses taken).2 i index undefined

/-- The effects of DISABLE_STATION on a defined station (R18): what is posted leaves the queues, so the descriptors
withdrawn are those that stood in them. -/
theorem disableStation_defined {p : TakenCommand} {s : State} {i : Fin 32} (index : fieldOf p.param0 0 8 = i.val)
    (defined : (s.stationAt i).defined = true) :
    disableStation p s =
      { state := completeAllQueued .stationDisabled (queuedFor s (s.stationAt i).line i)
          (removeQueuedFor
            (if (s.stationAt i).health = .disabled then s
            else
              post (stationStateRecord s i (s.stationAt i).line .disabled (s.stationAt i).health)
                (s.setStation i { s.stationAt i with health := .disabled, failureCount := 0 }))
            (s.stationAt i).line i),
        result := .ok, detail := (queuedFor s (s.stationAt i).line i).length } := by
  unfold disableStation
  simp only [index, stationOfNat_val, i.isLt, not_true_eq_false, defined, Bool.true_eq_false, if_false]

/-- Settles O19: DISABLE_STATION withdraws the descriptors that target the station. -/
theorem disableStationDisables : Obligations.DisableStationDisables := by
  intro s p i taken index defined
  refine (next_completeCommand taken (disableStation_defined index defined)).trans ?_
  by_cases disabled : (s.stationAt i).health = .disabled
  · simp only [if_pos disabled]
    rfl
  · simp only [if_neg disabled]
    rfl

/-! ### SET_STATION_LIMITS (R20, R21) -/

/-- The four parameters of SET_STATION_LIMITS, each in range (R20, R189). -/
def limitsInRange (p : TakenCommand) : List Bool :=
  [fieldOf p.param0 0 8 < 32, fieldOf p.param1 0 8 ≤ 3, 2 ≤ fieldOf p.param2 0 8 ∧ fieldOf p.param2 0 8 ≤ 15,
    1 ≤ fieldOf p.param3 0 8]

/-- The record a SET_STATION_LIMITS leaves at a station (R20, R21). -/
def TakenCommand.limits (p : TakenCommand) (r : Station) : Station :=
  limitsRecord r (fieldOf p.param1 0 8) (fieldOf p.param2 0 8) (fieldOf p.param3 0 8)

theorem setStationLimits_badParam {p : TakenCommand} {s : State} {position : Nat}
    (h : firstOutOfRange (limitsInRange p) = some position) :
    setStationLimits p s = refuse s .badParam position := by
  unfold setStationLimits
  unfold limitsInRange at h
  simp only [h]

theorem setStationLimits_notDefined {p : TakenCommand} {s : State} {i : Fin 32}
    (h : firstOutOfRange (limitsInRange p) = none) (index : fieldOf p.param0 0 8 = i.val)
    (undefined : (s.stationAt i).defined = false) : setStationLimits p s = refuse s .notDefined 0 := by
  unfold setStationLimits
  unfold limitsInRange at h
  simp only [h, stationOfNat_eq index, undefined, if_true]

theorem setStationLimits_ok {p : TakenCommand} {s : State} {i : Fin 32} (h : firstOutOfRange (limitsInRange p) = none)
    (index : fieldOf p.param0 0 8 = i.val) (defined : (s.stationAt i).defined = true) :
    setStationLimits p s =
      { state := if (p.limits (s.stationAt i)).health ≠ (s.stationAt i).health then
            post (stationStateRecord s i (s.stationAt i).line (p.limits (s.stationAt i)).health (s.stationAt i).health)
              (s.setStation i (p.limits (s.stationAt i)))
          else s.setStation i (p.limits (s.stationAt i)),
        result := .ok, detail := 0 } := by
  unfold setStationLimits
  unfold limitsInRange at h
  simp only [h, stationOfNat_eq index, defined, Bool.true_eq_false, if_false]
  rfl

/-- A PROBING or SUSPECT station whose count reaches the new limit goes OFFLINE (R21). -/
theorem limitsRecord_reached {r : Station} {offline : Nat} (retry probe : Nat)
    (trying : r.health = .probing ∨ r.health = .suspect) (reached : offline ≤ r.failureCount) :
    limitsRecord r retry offline probe =
      { r with retryLimit := retry, offlineLimit := offline, probeInterval := probe, health := .offline,
               failureCount := offline, probeCountdown := probe } := by
  unfold limitsRecord
  obtain h | h := trying <;> simp only [h, reached, if_true]

/-- An OFFLINE station takes the new limit as its count (R21). -/
theorem limitsRecord_offline {r : Station} (retry offline probe : Nat) (h : r.health = .offline) :
    limitsRecord r retry offline probe =
      { r with retryLimit := retry, offlineLimit := offline, probeInterval := probe, failureCount := offline } := by
  unfold limitsRecord
  simp only [h]

/-- Every other station keeps its count (R20). -/
theorem limitsRecord_other {r : Station} {offline : Nat} (retry probe : Nat)
    (below : ¬ ((r.health = .probing ∨ r.health = .suspect) ∧ offline ≤ r.failureCount)) (h : r.health ≠ .offline) :
    limitsRecord r retry offline probe =
      { r with retryLimit := retry, offlineLimit := offline, probeInterval := probe } := by
  unfold limitsRecord
  cases hr : r.health with
  | offline => exact absurd hr h
  | disabled | online => rfl
  | probing | suspect =>
    have low : ¬ offline ≤ r.failureCount := fun reached => below ⟨by simp [hr], reached⟩
    simp only [low, if_false]

theorem limitsInRange_none {p : TakenCommand} (index : fieldOf p.param0 0 8 < 32) (retry : fieldOf p.param1 0 8 ≤ 3)
    (two : 2 ≤ fieldOf p.param2 0 8) (fifteen : fieldOf p.param2 0 8 ≤ 15) (probe : 1 ≤ fieldOf p.param3 0 8) :
    firstOutOfRange (limitsInRange p) = none :=
  firstOutOfRange_eq_none (by
    simp only [limitsInRange, List.forall_mem_cons, decide_eq_true_eq]
    exact ⟨index, retry, ⟨two, fifteen⟩, probe, by simp⟩)

/-- Settles O20, by the three things new limits can do to a record. -/
theorem setStationLimitsActs : Obligations.SetStationLimitsActs := by
  intro s p i taken index defined retry two fifteen probe
  have inRange := limitsInRange_none (index ▸ i.isLt) retry two fifteen probe
  have body := setStationLimits_ok inRange index defined
  dsimp only
  by_cases reached : ((s.stationAt i).health = .probing ∨ (s.stationAt i).health = .suspect)
      ∧ (loByte p.param2).toNat ≤ (s.stationAt i).failureCount
  · have moved : Health.offline ≠ (s.stationAt i).health := by obtain h | h := reached.1 <;> simp [h]
    rw [show p.limits (s.stationAt i) = _ from limitsRecord_reached _ _ reached.1 reached.2, if_pos moved] at body
    rw [if_pos reached]
    exact next_completeCommand taken body
  by_cases offline : (s.stationAt i).health = .offline
  · rw [show p.limits (s.stationAt i) = _ from limitsRecord_offline _ _ _ offline, if_neg (not_not_intro rfl)] at body
    rw [if_neg reached, if_pos offline]
    exact next_completeCommand taken body
  · rw [show p.limits (s.stationAt i) = _ from limitsRecord_other _ _ reached offline, if_neg (not_not_intro rfl)] at body
    rw [if_neg reached, if_neg offline]
    exact next_completeCommand taken body

/-! ### Refusals (R3, R15 to R18, R20) -/

/-- The range of each parameter of SET_STATION_LIMITS by its position (R20). -/
def TakenCommand.limitAt (p : TakenCommand) : Nat → Prop
  | 1 => (loByte p.param0).toNat < 32
  | 2 => (loByte p.param1).toNat ≤ 3
  | 3 => 2 ≤ (loByte p.param2).toNat ∧ (loByte p.param2).toNat ≤ 15
  | 4 => 1 ≤ (loByte p.param3).toNat
  | _ => True

theorem limitsInRange_some {p : TakenCommand} {position : Nat} (before : ∀ k, k < position → p.limitAt k)
    (bad : ¬ p.limitAt position) : firstOutOfRange (limitsInRange p) = some position := by
  have bounds : 1 ≤ position ∧ position ≤ 4 := by
    match position with
    | 0 | n + 5 => exact absurd trivial bad
    | 1 | 2 | 3 | 4 => decide
  refine firstOutOfRange_eq_some (fun k hk => ?_) bounds.1 bounds.2 before bad
  match k with
  | 0 | 1 | 2 | 3 => exact decide_eq_true_iff
  | n + 4 => exact absurd hk (by simp [limitsInRange])

/-- The range of each parameter of DEFINE_STATION by its position (R15). -/
def TakenCommand.defineAt (p : TakenCommand) : Nat → Prop
  | 1 => (loByte p.param0).toNat < 32
  | 2 => (hiByte p.param0).toNat < 2
  | 3 => 1 ≤ (loByte p.param1).toNat ∧ (loByte p.param1).toNat ≤ 62
  | 5 => (loByte p.param2).toNat ≤ 3
  | 6 => 2 ≤ (hiByte p.param2).toNat ∧ (hiByte p.param2).toNat ≤ 15
  | 7 => 1 ≤ (loByte p.param3).toNat
  | 8 => (hiByte p.param3).toNat < 2
  | _ => True

theorem defineInRange_some {p : TakenCommand} {position : Nat} (before : ∀ k, k < position → p.defineAt k)
    (bad : ¬ p.defineAt position) : firstOutOfRange (defineInRange p) = some position := by
  have bounds : 1 ≤ position ∧ position ≤ 8 := by
    match position with
    | 0 | n + 9 => exact absurd trivial bad
    | 1 | 2 | 3 | 4 | 5 | 6 | 7 | 8 => decide
  refine firstOutOfRange_eq_some (fun k hk => ?_) bounds.1 bounds.2 before bad
  match k with
  | 0 | 1 | 2 | 4 | 5 | 6 | 7 => exact decide_eq_true_iff
  | 3 => exact ⟨fun _ => trivial, fun _ => rfl⟩
  | n + 8 => exact absurd hk (by simp [defineInRange])

/-- Settles O21: each refusal is the first failing check of its command. -/
theorem stationCommandsRefuse : Obligations.StationCommandsRefuse := by
  intro s p
  refine ⟨fun c code listed taken => ?_, fun taken => ?_, fun taken => ?_, fun i taken index defined => ?_⟩
  · simp only [List.mem_cons, Prod.mk.injEq, List.not_mem_nil, or_false] at listed
    obtain ⟨rfl, rfl⟩ | ⟨rfl, rfl⟩ | ⟨rfl, rfl⟩ | ⟨rfl, rfl⟩ := listed
    · exact dropStation_checks.refuses taken
    · exact enableStation_checks.refuses taken
    · exact disableStation_checks.refuses taken
    · exact commitCall_checks.refuses taken
  · dsimp only
    refine ⟨fun position before bad => ?_, fun i index inRange undefined => ?_⟩
    · exact next_completeCommand taken (setStationLimits_badParam (limitsInRange_some before bad))
    · have range := limitsInRange_none (inRange 1) (inRange 2) (inRange 3).1 (inRange 3).2 (inRange 4)
      exact next_completeCommand taken (setStationLimits_notDefined range index undefined)
  · dsimp only
    refine ⟨fun position before bad => ?_, fun i x index line inRange => ?_⟩
    · exact next_completeCommand taken (defineStation_badParam (defineInRange_some before bad))
    have range := defineInRange_none (inRange 1) (inRange 2) (inRange 3).1 (inRange 3).2 (inRange 5) (inRange 6).1
      (inRange 6).2 (inRange 7) (inRange 8)
    rw [← stationOfNat_eq index]
    refine ⟨fun defined => next_completeCommand taken (defineStation_wrongState range defined),
      fun j undefined holds only => ?_⟩
    have held := addressHolder_eq_some holds.1 holds.2.1 holds.2.2 only
    rw [← lineOfNat_eq line] at held
    exact next_completeCommand taken (defineStation_duplicateAddress range undefined held)
  · dsimp only
    rw [← namedBySweep_iff, ← namedByRequest_iff, ← viewedStation_iff]
    have body := dropStation_defined index defined
    refine ⟨fun listed => ?_, fun unlisted asked => ?_, fun unlisted unasked viewed => ?_⟩
    · exact next_completeCommand taken (body.trans (if_pos listed))
    · exact next_completeCommand taken (body.trans ((if_neg unlisted).trans (if_pos asked)))
    · exact next_completeCommand taken
        (body.trans ((if_neg unlisted).trans ((if_neg unasked).trans (if_pos viewed))))

end Sys2Proof.Machine
end

section
/-! The report of an exchange in the Station Table (R6 to R14), and the state after reset with its laws. -/

namespace Sys2Proof.Machine

/-! ### The report (R14) -/

@[simp] theorem postAll_stationAt (rs : List EventRecord) (s : State) (i : Fin 32) :
    (postAll rs s).stationAt i = s.stationAt i := by
  induction rs generalizing s with
  | nil => rfl
  | cons r rest ih => exact ih (post r s)

theorem postAll_events (rs : List EventRecord) (s : State) :
    (postAll rs s).events = rs.foldl EventQueue.arrive s.events := by
  induction rs generalizing s with
  | nil => rfl
  | cons r rest ih => exact ih (post r s)

theorem stationReport_stationAt (i j : Fin 32) (o : ExchangeResult) (status : Byte) (s : State) :
    (stationReport i o status s).stationAt j =
      if j = i then recordAfterReport (s.stationAt i) o status else s.stationAt j := by
  unfold stationReport
  rw [postAll_stationAt, stationAt_setStation]

theorem stationReport_events (i : Fin 32) (o : ExchangeResult) (status : Byte) (s : State) :
    (stationReport i o status s).events = (reportRecords s i o status).foldl EventQueue.arrive s.events :=
  postAll_events _ _

/-- The health machine moves health, failure count and probe countdown alone (R6 to R8). -/
theorem healthAfter_frame (r : Station) (o : ExchangeResult) :
    (healthAfter r o).lastOutcome = r.lastOutcome ∧ (healthAfter r o).lastStatus = r.lastStatus
      ∧ (healthAfter r o).alertLatched = r.alertLatched := by
  unfold healthAfter
  repeat' split
  all_goals exact ⟨rfl, rfl, rfl⟩

theorem recordAfterReport_lastOutcome (r : Station) (o : ExchangeResult) (status : Byte) :
    (recordAfterReport r o status).lastOutcome = some o := by
  unfold recordAfterReport
  dsimp only
  split <;> exact (healthAfter_frame _ o).1

/-- The alert latch takes the alert bit of a success and nothing else (R13). -/
theorem recordAfterReport_alertLatched (r : Station) (o : ExchangeResult) (status : Byte) :
    (recordAfterReport r o status).alertLatched =
      if classOf o = .success then alertBit status else r.alertLatched := by
  unfold recordAfterReport
  dsimp only
  split
  · rfl
  · exact (healthAfter_frame _ o).2.2

/-- A success notes the status and brings every station in service to ONLINE with no failures (R6, R12). -/
theorem recordAfterReport_success {o : ExchangeResult} (r : Station) (status : Byte) (h : classOf o = .success) :
    recordAfterReport r o status =
      { r with
        lastOutcome := some o, lastStatus := some status, alertLatched := alertBit status,
        health := if r.health = .disabled then .disabled else .online,
        failureCount := if r.health = .online ∨ r.health = .disabled then r.failureCount else 0 } := by
  cases hr : r.health <;> simp [recordAfterReport, healthAfter, h, hr]

/-- A failure counts and loads the countdown by the health it finds (R6, R7, R8). -/
theorem recordAfterReport_failure {o : ExchangeResult} (r : Station) (status : Byte) (h : classOf o = .failure) :
    recordAfterReport r o status =
      match r.health with
      | .disabled => { r with lastOutcome := some o }
      | .online => { r with lastOutcome := some o, health := .suspect, failureCount := 1 }
      | .probing | .suspect =>
        if r.failureCount + 1 = r.offlineLimit then
          { r with lastOutcome := some o, health := .offline, failureCount := r.failureCount + 1,
                   probeCountdown := r.probeInterval }
        else { r with lastOutcome := some o, failureCount := r.failureCount + 1 }
      | .offline => { r with lastOutcome := some o, probeCountdown := r.probeInterval } := by
  cases hr : r.health <;> simp [recordAfterReport, healthAfter, h, hr]

/-- A neutral outcome is noted and moves nothing (R8). -/
theorem recordAfterReport_neutral {o : ExchangeResult} (r : Station) (status : Byte) (h : classOf o = .neutral) :
    recordAfterReport r o status = { r with lastOutcome := some o } := by
  simp [recordAfterReport, healthAfter, h]

/-- The latch was set by this report exactly where a success with the alert bit found it clear (R13). -/
theorem alert_set_iff (r : Station) (o : ExchangeResult) (status : Byte) :
    (recordAfterReport r o status).alertLatched = true ∧ r.alertLatched = false ↔
      (classOf o = .success && alertBit status && !r.alertLatched) = true := by
  rw [recordAfterReport_alertLatched]
  split
  · next h => simp [h]
  · next h => simp [h]

/-- Settles O45: by the class of the outcome and the health it finds. -/
theorem reportMovesHealth : Obligations.ReportMovesHealth := by
  intro s i o status
  have here : (stationReport i o status s).stationAt i = recordAfterReport (s.stationAt i) o status := by
    rw [stationReport_stationAt, if_pos rfl]
  dsimp only
  rw [here, stationReport_events]
  refine ⟨recordAfterReport_lastOutcome _ o status, fun j hj => ?_, fun success => ?_, fun failure => ?_,
    recordAfterReport_neutral _ status, ?_⟩
  · rw [stationReport_stationAt, if_neg hj]
  · rw [recordAfterReport_success _ status success]
    refine ⟨rfl, rfl, rfl, fun out => ?_, fun kept => ?_⟩
    · obtain h | h | h := out <;> simp [h]
    · obtain h | h := kept <;> simp [h]
  · rw [recordAfterReport_failure _ status failure]
    cases health : (s.stationAt i).health with
    | disabled | online | offline => simp
    | probing | suspect => by_cases last : (s.stationAt i).failureCount + 1 = (s.stationAt i).offlineLimit <;> simp [last]
  · simp only [reportRecords, alert_set_iff, ne_eq, ite_not]
    rfl

/-! ### The state after reset -/

@[simp] theorem reset_sweepAt (x : Line) : State.reset.sweepAt x = SweepController.reset := by cases x <;> rfl

@[simp] theorem reset_engineAt (x : Line) : State.reset.engineAt x = LineEngine.reset := by cases x <;> rfl

@[simp] theorem reset_callPairAt (i : Fin 32) : State.reset.callPairAt i = CallPair.reset := by
  simp [State.callPairAt, State.reset, DataStore.reset]

@[simp] theorem reset_answerPairAt (i : Fin 32) : State.reset.answerPairAt i = AnswerPair.reset := by
  simp [State.answerPairAt, State.reset, DataStore.reset]

@[simp] theorem reset_requestCallAt (d : Fin 16) : State.reset.requestCallAt d = CallBuffer.reset := by
  simp [State.requestCallAt, State.reset, DataStore.reset]

@[simp] theorem reset_requestAnswerAt (d : Fin 16) : State.reset.requestAnswerAt d = RequestAnswer.reset := by
  simp [State.requestAnswerAt, State.reset, DataStore.reset]

@[simp] theorem reset_descriptorAt (d : Fin 16) : State.reset.descriptorAt d = Descriptor.reset := by
  simp [State.descriptorAt, State.reset, RequestPool.reset]

@[simp] theorem reset_fifo (x : Line) (u : Urgency) : State.reset.fifo x u = [] := by cases x <;> cases u <;> rfl

@[simp] theorem reset_safeCalls (x : Line) : State.reset.store.safeCalls.get x = SafeCallBuffer.reset := by
  cases x <;> rfl

@[simp] theorem reset_builds (x : Line) : State.reset.store.builds.get x = BuildArea.reset := by cases x <;> rfl

/-- Settles O4: each block's value is the one its reset definition writes. -/
theorem resetValues : Obligations.ResetValues := by
  refine ⟨reset_stationAt, reset_sweepAt, fun x => ?_, fun i half h => ?_, fun i half h => ?_,
    fun d => ⟨reset_requestCallAt d, reset_requestAnswerAt d⟩, fun x => ⟨reset_safeCalls x, reset_builds x⟩,
    reset_descriptorAt, reset_fifo, rfl, rfl, rfl, rfl, rfl, rfl, rfl, rfl, rfl, rfl⟩
  · rw [reset_engineAt]
    exact ⟨rfl, rfl, rfl, rfl, rfl, rfl, rfl, rfl, rfl, rfl, rfl, rfl, rfl, rfl, rfl, rfl, rfl, rfl, rfl, rfl, rfl⟩
  · rw [reset_callPairAt] at h
    obtain rfl | rfl := h <;> rfl
  · rw [reset_answerPairAt] at h
    obtain rfl | rfl := h <;> rfl

/-- With every level 0 no source can assert IRQ (R159, R160). -/
theorem irqLawful_reset : irqLawful State.reset := by
  refine iff_of_false Bool.false_ne_true ?_
  rintro ⟨src, _, level, _⟩
  exact level (by cases src <;> rfl)

theorem linesLawful_reset : linesLawful State.reset := fun x => by
  simp [LineEngine.driverLawful, LineEngine.attemptsLawful, restLawful, LineEngine.reset, SweepController.reset]

/-- Settles O5: nothing is queued, listed, defined or in flight at reset. -/
theorem lawsHoldAtReset : Obligations.LawsHoldAtReset := by
  refine ⟨?_, ?_, irqLawful_reset, countsLawful_reset, addressesLawful_reset, ?_, ?_, ?_, linesLawful_reset⟩
  · simp [EventQueue.lawful, State.reset, EventQueue.reset]
  · simp [Arbiter.stackLawful, State.reset, Arbiter.reset]
  · simp [sweepListsLawful, SweepController.reset]
  · simp [queuesLawful, Descriptor.reset]
  · simp [exchangesLawful, LineEngine.reset]

end Sys2Proof.Machine
end

section
/-! How a Sweep Controller examines its slots and how a pick is made and given (R10, R22, R23, R30 to R32). -/

namespace Sys2Proof.Machine

/-! ### Updates of a Sweep Controller -/

theorem modSweep_modSweep (x : Line) (f h : SweepController → SweepController) (s : State) :
    (s.modSweep x f).modSweep x h = s.modSweep x fun c => h (f c) := by
  cases x <;> rfl

/-- A change of a line's Sweep Controller is what it makes of the controller as it stands. -/
theorem modSweep_congr (x : Line) (f h : SweepController → SweepController) (s : State)
    (e : f (s.sweepAt x) = h (s.sweepAt x)) : s.modSweep x f = s.modSweep x h := by
  simp only [State.modSweep, e]

theorem modSweep_id (x : Line) (f : SweepController → SweepController) (s : State) (e : f (s.sweepAt x) = s.sweepAt x) :
    s.modSweep x f = s := by
  unfold State.modSweep
  rw [e]
  cases x <;> rfl

/-! ### One slot (R10, R23, R31) -/

section
variable {s : State} {x : Line} {slot : Slot}

theorem scanSlots_notDue (rest : List Slot) (due : slotDue slot (s.sweepAt x).count = false) :
    scanSlots x (slot :: rest) s = scanSlots x rest (s.modSweep x SweepController.passSlot) := by
  rw [scanSlots, if_neg (by simp [due])]

theorem scanSlots_skip (rest : List Slot) (due : slotDue slot (s.sweepAt x).count = true)
    (health : (s.stationAt slot.station).health = .disabled) :
    scanSlots x (slot :: rest) s = scanSlots x rest (s.modSweep x SweepController.skipSlot) := by
  rw [scanSlots, if_pos due]
  simp only [slotAction, health]

theorem scanSlots_countDown (rest : List Slot) (due : slotDue slot (s.sweepAt x).count = true)
    (health : (s.stationAt slot.station).health = .offline) (left : 0 < (s.stationAt slot.station).probeCountdown) :
    scanSlots x (slot :: rest) s =
      scanSlots x rest
        ((s.modSweep x SweepController.skipSlot).setStation slot.station
          { s.stationAt slot.station with probeCountdown := (s.stationAt slot.station).probeCountdown - 1 }) := by
  rw [scanSlots, if_pos due]
  simp only [slotAction, health, Nat.pos_iff_ne_zero.1 left, if_false]

theorem scanSlots_probe (rest : List Slot) (due : slotDue slot (s.sweepAt x).count = true)
    (health : (s.stationAt slot.station).health = .offline) (elapsed : (s.stationAt slot.station).probeCountdown = 0) :
    scanSlots x (slot :: rest) s =
      ((s.modSweep x SweepController.runSlot).setStation slot.station
        { s.stationAt slot.station with probeCountdown := (s.stationAt slot.station).probeInterval },
        some (.slot slot.station .probe)) := by
  rw [scanSlots, if_pos due]
  simp only [slotAction, health, elapsed, if_true]

theorem scanSlots_call (rest : List Slot) (due : slotDue slot (s.sweepAt x).count = true)
    (health : (s.stationAt slot.station).health = .probing ∨ (s.stationAt slot.station).health = .online
      ∨ (s.stationAt slot.station).health = .suspect) :
    scanSlots x (slot :: rest) s = (s.modSweep x SweepController.runSlot, some (.slot slot.station .cyclic)) := by
  rw [scanSlots, if_pos due]
  obtain h | h | h := health <;> simp only [slotAction, h]

/-- Slots that are not due or whose station is DISABLED move the pointer, and the due ones the skipped tally. -/
theorem scanSlots_passed (passed rest : List Slot)
    (idle : ∀ q ∈ passed, slotDue q (s.sweepAt x).count = true → (s.stationAt q.station).health = .disabled) :
    scanSlots x (passed ++ rest) s =
      scanSlots x rest
        (s.modSweep x fun c =>
          { c with pointer := c.pointer + passed.length,
                   skipped := c.skipped + (passed.filter fun q => slotDue q (s.sweepAt x).count).length }) := by
  induction passed generalizing s with
  | nil => rw [modSweep_id x _ s (by simp)]; rfl
  | cons q passed ih =>
    have tail q' (h : q' ∈ passed) := idle q' (List.mem_cons_of_mem q h)
    cases due : slotDue q (s.sweepAt x).count with
    | false =>
      rw [List.cons_append, scanSlots_notDue _ due, ih (by simpa [SweepController.passSlot] using tail),
        modSweep_modSweep]
      congr 1
      refine modSweep_congr x _ _ s ?_
      simp [SweepController.passSlot, due]
      omega
    | true =>
      rw [List.cons_append, scanSlots_skip _ due (idle q List.mem_cons_self due),
        ih (by simpa [SweepController.skipSlot] using tail), modSweep_modSweep]
      congr 1
      refine modSweep_congr x _ _ s ?_
      simp [SweepController.skipSlot, due]
      omega

end

/-! ### Picks (R30 to R32) -/

theorem takeHead_cons {s : State} {x : Line} {u : Urgency} {d : Fin 16} {more : List (Fin 16)}
    (h : s.fifo x u = d :: more) :
    takeHead x u s =
      ((s.setFifo x u more).setDescriptor d { s.descriptorAt d with state := .active }, some (.request d)) := by
  simp only [takeHead, h]

theorem endSweep_sweepAt (x : Line) (s : State) :
    (endSweep x s).sweepAt x = { s.sweepAt x with state := .between } := by
  unfold endSweep
  rw [sweepAt_modSweep_self]
  split <;> rfl

theorem pick_between {s : State} {x : Line} (h : (s.sweepAt x).state = .between) : pick x s = service x s := by
  simp only [pick, h]

theorem pick_endSweep (x : Line) (s : State) : pick x (endSweep x s) = service x (endSweep x s) :=
  pick_between (by rw [endSweep_sweepAt])

/-- `d` is `c` but for the pointer, the burst count and the tallies. -/
def SweepController.Examined (c d : SweepController) : Prop :=
  d = { c with pointer := d.pointer, burst := d.burst, executed := d.executed, skipped := d.skipped }

theorem SweepController.Examined.trans {b c d : SweepController} (h : b.Examined c) (h' : c.Examined d) :
    b.Examined d := by
  unfold Examined at *
  rw [h', h]

theorem modSweep_examined (x : Line) (f : SweepController → SweepController) (s : State)
    (h : (s.sweepAt x).Examined (f (s.sweepAt x))) : (s.sweepAt x).Examined ((s.modSweep x f).sweepAt x) := by
  rwa [sweepAt_modSweep_self]

/-- Examining slots moves the pointer, the burst count and the tallies alone (R31). -/
theorem scanSlots_examined (x : Line) (slots : List Slot) (s : State) :
    (s.sweepAt x).Examined ((scanSlots x slots s).1.sweepAt x) := by
  induction slots generalizing s with
  | nil => exact modSweep_examined x _ s rfl
  | cons slot rest ih =>
    have passed := modSweep_examined x SweepController.passSlot s rfl
    have skipped := modSweep_examined x SweepController.skipSlot s rfl
    have ran := modSweep_examined x SweepController.runSlot s rfl
    unfold scanSlots
    split
    · dsimp only
      split
      · exact skipped.trans (ih _)
      · exact skipped.trans (ih _)
      · exact ran
      · exact ran
    · exact passed.trans (ih _)

/-- After a sweep without work and with no start pending the service is the one that follows an empty sweep. -/
theorem service_of_cleared {s : State} {x : Line} (start : (s.sweepAt x).pendingStart = false)
    (served : (s.sweepAt x).normalServed = false) (taken : (s.sweepAt x).exchangeTaken = false) :
    service x s = serviceAfterEmptySweep x s := by
  simp [service, serviceAfterEmptySweep, start, served, taken]

/-- A sweep that starts examines its list from the first slot (R30). -/
theorem sweepPick_first (x : Line) (s : State) :
    sweepPick x true (startSweep x s) = scanSlots x ((startSweep x s).sweepAt x).live (startSweep x s) := by
  have first : ((startSweep x s).sweepAt x).pointer = 1 := by simp [startSweep, SweepController.started]
  simp [sweepPick, first]

/-- With its list examined without work the fresh sweep ends, and the pick goes on between sweeps (R32, R34). -/
theorem freshSweep_none {x : Line} {s u : State}
    (h : scanSlots x ((startSweep x s).sweepAt x).live (startSweep x s) = (u, none)) :
    freshSweep x s = pick x (endSweep x u) := by
  have examined := scanSlots_examined x ((startSweep x s).sweepAt x).live (startSweep x s)
  rw [h] at examined
  have cleared : (u.sweepAt x).pendingStart = false ∧ (u.sweepAt x).normalServed = false
      ∧ (u.sweepAt x).exchangeTaken = false := by
    rw [examined]
    simp [startSweep, SweepController.started]
  rw [pick_endSweep, service_of_cleared]
  · simp only [freshSweep, sweepPick_first, h]
  all_goals rw [endSweep_sweepAt]
  · exact cleared.1
  · exact cleared.2.1
  · exact cleared.2.2

theorem freshSweep_some {x : Line} {s u : State} {w : Work}
    (h : scanSlots x ((startSweep x s).sweepAt x).live (startSweep x s) = (u, some w)) :
    freshSweep x s = (u, some w) := by
  simp only [freshSweep, sweepPick_first, h]

/-- A pick inside a sweep takes the urgent head while the burst has room (R31). -/
theorem pick_urgent {x : Line} {s : State} {d : Fin 16} {more : List (Fin 16)} (sweeping : (s.sweepAt x).state = .sweeping)
    (head : s.fifo x .urgent = d :: more) (room : (s.sweepAt x).burst < (s.engineAt x).config.urgentBurst) :
    pick x s = takeHead x .urgent (s.modSweep x fun c => { c with burst := c.burst + 1 }) := by
  have head' : (s.modSweep x fun c => { c with burst := c.burst + 1 }).fifo x .urgent = d :: more := by simpa using head
  simp [pick, sweeping, sweepPick, head, room, takeHead_cons head']

/-- Else it examines the slots from the pointer on (R31). -/
theorem sweepPick_slots {x : Line} {s : State}
    (full : s.fifo x .urgent = [] ∨ (s.engineAt x).config.urgentBurst ≤ (s.sweepAt x).burst) :
    sweepPick x false s = scanSlots x ((s.sweepAt x).live.drop ((s.sweepAt x).pointer - 1)) s := by
  unfold sweepPick
  dsimp only
  rw [if_neg]
  obtain empty | spent := full
  · simp [empty]
  · simp [spent]

/-- The exchange-taken marker is set in REPEAT mode alone (R36; log 18). -/
theorem exchangeTaken_marked (x : Line) (s : State) :
    (if (s.engineAt x).config.mode = .repeating then s.modSweep x fun c => { c with exchangeTaken := true } else s) =
      s.modSweep x fun c =>
        { c with exchangeTaken := if (s.engineAt x).config.mode = .repeating then true else c.exchangeTaken } := by
  by_cases repeating : (s.engineAt x).config.mode = .repeating
  · simp only [repeating, if_true]
  · rw [if_neg repeating, modSweep_id x _ s (by simp [repeating])]

/-- Settles O28, by the cases of one slot, of a pick inside a sweep and of a fresh sweep. -/
theorem scanExaminesSlotsInOrder : Obligations.ScanExaminesSlotsInOrder := by
  refine ⟨fun s x passed rest slot idle due => ?_, fun s x slot rest => ?_⟩
  · dsimp only
    rw [scanSlots_passed passed (slot :: rest) idle]
    have due' (f) (hf : (f (s.sweepAt x)).count = (s.sweepAt x).count) :
        slotDue slot ((s.modSweep x f).sweepAt x).count = true := by rwa [sweepAt_modSweep_self, hf]
    refine ⟨fun health => ?_, fun health elapsed => ?_⟩
    · rw [scanSlots_call rest (due' _ rfl) health, modSweep_modSweep]
      rfl
    · rw [scanSlots_probe rest (due' _ rfl) health elapsed, modSweep_modSweep]
      rfl
  · refine ⟨scanSlots_countDown rest, scanSlots_skip rest, scanSlots_notDue rest, rfl, ?_⟩
    dsimp only
    refine ⟨fun inactive => ?_, fun sweeping => ⟨fun d more head room => ?_, fun full u work found => ?_⟩,
      fun u work found => ⟨fun w hw => ?_, fun hw => ?_⟩, rfl,
      ⟨fun i kind => congrArg (startSlot x i kind) (exchangeTaken_marked x s),
        fun d => congrArg (startRequest x d) (exchangeTaken_marked x s)⟩, rfl, rfl⟩
    · simp only [pick, inactive]
    · rw [pick_urgent sweeping head room, takeHead_cons (by simpa using head)]
      rfl
    · have slots := (sweepPick_slots full).trans found
      refine ⟨fun w hw => ?_, fun hw => ?_⟩
      · subst hw
        simp only [pick, sweeping, slots]
      · subst hw
        refine Eq.trans ?_ (pick_endSweep x u).symm
        simp only [pick, sweeping, slots]
    · subst hw
      exact freshSweep_some found
    · subst hw
      exact freshSweep_none found

end Sys2Proof.Machine
end

section
/-! The sweep lists: what LOAD_SWEEP checks and loads (R26 to R28), and the law of the lists (R27). -/

namespace Sys2Proof.Machine

/-! ### LOAD_SWEEP's checks and effects (R27, R28) -/

theorem slotValid_iff {s : State} {x : Line} {b : BuildArea} {k : Nat} :
    slotValid s x b k = true ↔
      b.slotByte (3 * k) < 32 ∧ (s.stationAt (stationOfNat (b.slotByte (3 * k)))).defined = true
        ∧ (s.stationAt (stationOfNat (b.slotByte (3 * k)))).line = x
        ∧ 1 ≤ b.slotByte (3 * k + 1) ∧ b.slotByte (3 * k + 1) ≤ 16
        ∧ b.slotByte (3 * k + 2) < b.slotByte (3 * k + 1) := by
  simp [slotValid, and_assoc]

/-- The first faulty slot of a build area, counted from 0 (R27). -/
def firstFault (s : State) (x : Line) (b : BuildArea) : Option Nat :=
  (List.range b.length.toNat).find? fun k => !slotValid s x b k

theorem firstFault_eq_none {s : State} {x : Line} {b : BuildArea} :
    firstFault s x b = none ↔ ∀ k, k < b.length.toNat → slotValid s x b k = true := by
  simp [firstFault]

theorem firstFault_eq_some {s : State} {x : Line} {b : BuildArea} {k : Nat} :
    firstFault s x b = some k ↔
      ¬ slotValid s x b k = true ∧ k < b.length.toNat ∧ ∀ j, j < k → slotValid s x b j = true := by
  simp [firstFault, List.find?_range_eq_some]

/-- A line byte in range is the code of a line (R188). -/
theorem exists_lineCode {b : Byte} (h : b.toNat < 2) : ∃ x, b = lineCode x := by
  obtain low | high : b.toNat = 0 ∨ b.toNat = 1 := by omega
  · exact ⟨.a, BitVec.eq_of_toNat_eq low⟩
  · exact ⟨.b, BitVec.eq_of_toNat_eq high⟩

section
variable {p : TakenCommand} {s : State} {x : Line}

theorem loadSweep_badLine (line : 2 ≤ (loByte p.param0).toNat) : loadSweep p s = refuse s .badParam 0 := by
  unfold loadSweep
  exact if_pos (Nat.not_lt.2 line)

theorem loadSweep_tooLong (line : loByte p.param0 = lineCode x) (long : 48 < (s.store.builds.get x).length.toNat) :
    loadSweep p s = refuse s .badParam 49 := by
  unfold loadSweep
  simp only [fieldOf_low, line, lineOfNat_lineCode, lineCode_lt, not_true_eq_false, if_false, long, if_true]

theorem loadSweep_fault {k : Nat} (line : loByte p.param0 = lineCode x)
    (short : (s.store.builds.get x).length.toNat ≤ 48) (fault : firstFault s x (s.store.builds.get x) = some k) :
    loadSweep p s = refuse s .badParam (k + 1) := by
  unfold firstFault at fault
  unfold loadSweep
  simp only [fieldOf_low, line, lineOfNat_lineCode, lineCode_lt, not_true_eq_false, if_false, Nat.not_lt.2 short, fault]

theorem loadSweep_resting (line : loByte p.param0 = lineCode x)
    (short : (s.store.builds.get x).length.toNat ≤ 48) (sound : firstFault s x (s.store.builds.get x) = none)
    (resting : (s.engineAt x).control = .stopped ∨ (s.engineAt x).control = .halted) :
    loadSweep p s =
      { state := s.modSweep x fun c => { c with live := (s.store.builds.get x).slots, shadow := none }, result := .ok,
        detail := (s.store.builds.get x).length.toNat } := by
  unfold firstFault at sound
  unfold loadSweep
  simp only [fieldOf_low, line, lineOfNat_lineCode, lineCode_lt, not_true_eq_false, if_false, Nat.not_lt.2 short, sound]
  obtain h | h := resting <;> simp only [h]

theorem loadSweep_inService (line : loByte p.param0 = lineCode x)
    (short : (s.store.builds.get x).length.toNat ≤ 48) (sound : firstFault s x (s.store.builds.get x) = none)
    (inService : (s.engineAt x).control = .running ∨ (s.engineAt x).control = .stopping) :
    loadSweep p s =
      { state := s.modSweep x fun c => { c with shadow := some (s.store.builds.get x).slots }, result := .okDeferred,
        detail := (s.store.builds.get x).length.toNat } := by
  unfold firstFault at sound
  unfold loadSweep
  simp only [fieldOf_low, line, lineOfNat_lineCode, lineCode_lt, not_true_eq_false, if_false, Nat.not_lt.2 short, sound]
  obtain h | h := inService <;> simp only [h]

end

/-- Settles O22: every entry passes its checks, so no fault is found and the line's control state decides. -/
theorem loadSweepLoads : Obligations.LoadSweepLoads := by
  intro s p x taken line
  dsimp only
  intro short valid
  have sound : firstFault s x (s.store.builds.get x) = none :=
    firstFault_eq_none.2 fun k hk => slotValid_iff.2 (valid k hk)
  exact ⟨fun resting => next_completeCommand taken (loadSweep_resting line short sound resting),
    fun inService => next_completeCommand taken (loadSweep_inService line short sound inService)⟩

/-- Settles O23: the line, the length and the first entry that fails its checks, in this order. -/
theorem loadSweepRefusesTheFirstFault : Obligations.LoadSweepRefusesTheFirstFault := by
  intro s p taken
  refine ⟨fun line => next_completeCommand taken (loadSweep_badLine line), fun x line => ?_⟩
  dsimp only
  refine ⟨fun long => next_completeCommand taken (loadSweep_tooLong line long), fun k short listed before bad => ?_⟩
  have fault : firstFault s x (s.store.builds.get x) = some k :=
    firstFault_eq_some.2 ⟨mt slotValid_iff.1 bad, listed, fun j hj => slotValid_iff.2 (before j hj)⟩
  exact next_completeCommand taken (loadSweep_fault line short fault)

/-! ### The law of the sweep lists (R27) -/

/-- No slot comes into a list and no station is dropped or moved. -/
theorem Tabled.sweepListsLawful {s t : State} (h : Tabled s t) (hs : sweepListsLawful s) : sweepListsLawful t :=
  fun x slot listed => by
    obtain ⟨defined, line, divider, phase⟩ := hs x slot (h.lists x slot listed)
    obtain ⟨sameDefined, sameLine, _⟩ := h.same slot.station
    exact ⟨sameDefined.trans defined, sameLine.trans line, divider, phase⟩

/-- The record of a station that no list names may be replaced by any other. -/
theorem sweepListsLawful_of_unnamed {s t : State} {i : Fin 32} {r : Station} (hs : sweepListsLawful s)
    (unnamed : ∀ x, ∀ slot ∈ s.listed x, slot.station ≠ i) (lists : t.sweep = s.sweep)
    (stations : t.stations = (s.setStation i r).stations) : sweepListsLawful t :=
  fun x slot listed => by
    have listed' : slot ∈ s.listed x := by simpa only [State.listed, State.sweepAt, lists] using listed
    have same : t.stationAt slot.station = s.stationAt slot.station := by
      rw [stationAt_congr stations, stationAt_setStation, if_neg (unnamed x slot listed')]
    have lawful := hs x slot listed'
    unfold slotLawful at lawful ⊢
    rwa [same]

/-- A lawful list names no station that is not defined. -/
theorem unnamed_of_undefined {s : State} {i : Fin 32} (hs : sweepListsLawful s)
    (undefined : (s.stationAt i).defined = false) :
    ∀ x, ∀ slot ∈ s.listed x, slot.station ≠ i := fun x slot listed named => by
  obtain ⟨defined, _⟩ := hs x slot listed
  rw [named, undefined] at defined
  exact nomatch defined

/-- A station that no list of its own line names is named by no lawful list (R16 reason 1). -/
theorem unnamed_of_not_namedBySweep {s : State} {i : Fin 32} (hs : sweepListsLawful s)
    (free : ¬ namedBySweep s (s.stationAt i).line i = true) : ∀ x, ∀ slot ∈ s.listed x, slot.station ≠ i :=
  fun x slot listed named => by
    obtain ⟨_, line, _⟩ := hs x slot listed
    rw [named] at line
    exact free (namedBySweep_iff.2 ⟨slot, line ▸ listed, named⟩)

theorem completeCommand_sweepListsLawful (code : Byte) (body : TakenCommand → State → Completion) {s : State}
    (h : ∀ p, sweepListsLawful (body p s).state) (hs : sweepListsLawful s) :
    sweepListsLawful (completeCommand code body s) := by
  unfold completeCommand
  split
  · exact (finish_tabled _ .rfl).sweepListsLawful (h _)
  · exact hs

theorem defineStation_sweepListsLawful (p : TakenCommand) {s : State} (hs : sweepListsLawful s) :
    sweepListsLawful (defineStation p s).state := by
  cases inRange : firstOutOfRange (defineInRange p) with
  | some position => rw [defineStation_badParam inRange]; exact hs
  | none =>
    cases hd : (s.stationAt (stationOfNat (fieldOf p.param0 0 8))).defined with
    | true => rw [defineStation_wrongState inRange hd]; exact hs
    | false =>
      cases free : addressHolder s (lineOfNat (fieldOf p.param0 8 8)) (loByte p.param1) with
      | some j => rw [defineStation_duplicateAddress inRange hd free]; exact hs
      | none =>
        rw [defineStation_ok inRange rfl rfl hd free]
        dsimp only
        have unnamed := unnamed_of_undefined hs hd
        split <;> exact sweepListsLawful_of_unnamed (r := p.record) hs unnamed rfl rfl

theorem dropStation_sweepListsLawful (p : TakenCommand) {s : State} (hs : sweepListsLawful s) :
    sweepListsLawful (dropStation p s).state := by
  by_cases index : fieldOf p.param0 0 8 < 32
  case neg => rw [(dropStation_checks p s).1 (Nat.not_lt.1 index)]; exact hs
  cases defined : (s.stationAt (stationOfNat (fieldOf p.param0 0 8))).defined with
  | false => rw [(dropStation_checks p s).2 index defined]; exact hs
  | true =>
    rw [dropStation_defined (Nat.mod_eq_of_lt index).symm defined]
    split
    · exact hs
    next free =>
    have unnamed := unnamed_of_not_namedBySweep hs free
    split
    · exact hs
    split
    · exact hs
    · dsimp only
      split <;> exact sweepListsLawful_of_unnamed (r := Station.reset) hs unnamed rfl rfl

/-- The slots of a build area without a fault are lawful (R27, R28). -/
theorem slots_lawful {s : State} {x : Line} {b : BuildArea} (sound : firstFault s x b = none) :
    ∀ slot ∈ b.slots, slotLawful s x slot := fun slot listed => by
  obtain ⟨k, hk, rfl⟩ := List.mem_map.1 listed
  obtain ⟨_, defined, line, _, divider, phase⟩ := slotValid_iff.1 (firstFault_eq_none.1 sound k (List.mem_range.1 hk))
  exact ⟨defined, line, divider, phase⟩

/-- The lists of one line changed for lawful ones. -/
theorem sweepListsLawful_modSweep {s : State} {x : Line} {f : SweepController → SweepController}
    (lists : ∀ slot ∈ (f (s.sweepAt x)).live ++ (f (s.sweepAt x)).shadow.getD [], slotLawful s x slot)
    (hs : sweepListsLawful s) : sweepListsLawful (s.modSweep x f) := fun y slot listed => by
  rw [sweepAt_modSweep] at listed
  split at listed
  · next same => exact same ▸ lists slot listed
  · exact hs y slot listed

theorem loadSweep_sweepListsLawful (p : TakenCommand) {s : State} (hs : sweepListsLawful s) :
    sweepListsLawful (loadSweep p s).state := by
  by_cases bad : 2 ≤ (loByte p.param0).toNat
  case pos => rw [loadSweep_badLine bad]; exact hs
  obtain ⟨x, line⟩ : ∃ x, loByte p.param0 = lineCode x := exists_lineCode (Nat.not_le.1 bad)
  by_cases long : 48 < (s.store.builds.get x).length.toNat
  case pos => rw [loadSweep_tooLong line long]; exact hs
  have short := Nat.not_lt.1 long
  cases found : firstFault s x (s.store.builds.get x) with
  | some k => rw [loadSweep_fault line short found]; exact hs
  | none =>
    have slots := slots_lawful found
    have inService := loadSweep_inService line short found
    have resting := loadSweep_resting line short found
    have shadowed : sweepListsLawful (s.modSweep x fun c => { c with shadow := some (s.store.builds.get x).slots }) :=
      sweepListsLawful_modSweep
        (fun slot h => (List.mem_append.1 h).elim (fun live => hs x slot (List.mem_append_left _ live)) (slots slot)) hs
    have replaced : sweepListsLawful
        (s.modSweep x fun c => { c with live := (s.store.builds.get x).slots, shadow := none }) :=
      sweepListsLawful_modSweep (fun slot h => slots slot (by simpa using h)) hs
    cases control : (s.engineAt x).control with
    | stopped => rw [resting (.inl control)]; exact replaced
    | halted => rw [resting (.inr control)]; exact replaced
    | running => rw [inService (.inl control)]; exact shadowed
    | stopping => rw [inService (.inr control)]; exact shadowed

/-- After a reset the lists are empty. -/
theorem sweepListsLawful_of_reset {t : State} (h : t.sweep = State.reset.sweep) : sweepListsLawful t :=
  fun x slot listed => by
    have empty : t.sweepAt x = SweepController.reset := by
      unfold State.sweepAt
      rw [h]
      exact reset_sweepAt x
    rw [empty] at listed
    exact nomatch listed

/-- A reset that a state may refuse. -/
theorem sweepListsLawful_ite_reset {c : Prop} [Decidable c] {s t : State} (h : t.sweep = State.reset.sweep)
    (hs : sweepListsLawful s) : sweepListsLawful (if c then t else s) := by
  split
  · exact sweepListsLawful_of_reset h
  · exact hs

/-- The commands that edit the tables keep the lists lawful: each in its own way. -/
theorem exec_edit_sweepListsLawful (c : Instr) (s t : State) (edits : editsTables c = true) (ran : exec c s = .next t)
    (hs : sweepListsLawful s) : sweepListsLawful t := by
  cases c with
  | defineStation =>
    cases ran
    exact completeCommand_sweepListsLawful _ _ (defineStation_sweepListsLawful · hs) hs
  | dropStation =>
    cases ran
    exact completeCommand_sweepListsLawful _ _ (dropStation_sweepListsLawful · hs) hs
  | loadSweep =>
    cases ran
    exact completeCommand_sweepListsLawful _ _ (loadSweep_sweepListsLawful · hs) hs
  | softReset | pinResetAssert | pinResetRelease => cases ran; exact sweepListsLawful_ite_reset rfl hs
  | _ => exact nomatch edits

/-- Settles O11: LOAD_SWEEP lists only checked slots, a station is dropped or defined only while no list names it, a
reset empties the lists, and every other change lists no new slot. -/
theorem sweepListLawKept : Obligations.SweepListLawKept :=
  fun _ _ h hs => step_keeps_of_tabled (P := sweepListsLawful) (fun _ _ hs => hs) (fun _ _ => Tabled.sweepListsLawful)
    exec_edit_sweepListsLawful h hs

end Sys2Proof.Machine
end

section
/-! The cycle: SET_PERIOD (R43), cycle starts with their sources (R39, R40, R42, R44, R45), the steps of a sweep start
(R30) and the picks between sweeps (R34 to R38, R41). -/

namespace Sys2Proof.Machine

/-! ### SET_PERIOD (R43) -/

/-- The two parameters of SET_PERIOD, each in range (R43, R189). -/
def periodInRange (p : TakenCommand) : List Bool := [fieldOf p.param0 0 8 < 2, 100 ≤ p.param1.toNat]

section
variable {p : TakenCommand} {s : State} {x : Line}

theorem setPeriod_badParam {position : Nat} (h : firstOutOfRange (periodInRange p) = some position) :
    setPeriod p s = refuse s .badParam position := by
  unfold setPeriod
  unfold periodInRange at h
  simp only [h]

theorem periodInRange_badLine (line : 2 ≤ (loByte p.param0).toNat) : firstOutOfRange (periodInRange p) = some 1 := by
  simp [periodInRange, fieldOf_low, firstOutOfRange, Nat.not_lt.2 line]

/-- With the line in range the period alone decides. -/
theorem periodInRange_line (line : loByte p.param0 = lineCode x) :
    firstOutOfRange (periodInRange p) = if 100 ≤ p.param1.toNat then none else some 2 := by
  have inRange : fieldOf p.param0 0 8 < 2 := by rw [fieldOf_low, line]; exact lineCode_lt x
  rw [periodInRange, decide_eq_true inRange]
  by_cases value : 100 ≤ p.param1.toNat <;> simp [firstOutOfRange, value]

theorem setPeriod_resting (line : loByte p.param0 = lineCode x) (value : 100 ≤ p.param1.toNat)
    (resting : (s.engineAt x).control = .stopped ∨ (s.engineAt x).control = .halted) :
    setPeriod p s =
      { state := s.modSweep x fun c => { c with period := p.param1.toNat, counter := p.param1.toNat }, result := .ok,
        detail := 0 } := by
  have inRange := (periodInRange_line line).trans (if_pos value)
  have hx : lineOfNat (fieldOf p.param0 0 8) = x := lineOfNat_eq line
  unfold periodInRange at inRange
  unfold setPeriod
  simp only [inRange, hx]
  obtain h | h := resting <;> simp only [h]

theorem setPeriod_inService (line : loByte p.param0 = lineCode x) (value : 100 ≤ p.param1.toNat)
    (inService : (s.engineAt x).control = .running ∨ (s.engineAt x).control = .stopping) :
    setPeriod p s =
      { state := s.modSweep x fun c => { c with period := p.param1.toNat }, result := .ok, detail := 0 } := by
  have inRange := (periodInRange_line line).trans (if_pos value)
  have hx : lineOfNat (fieldOf p.param0 0 8) = x := lineOfNat_eq line
  unfold periodInRange at inRange
  unfold setPeriod
  simp only [inRange, hx]
  obtain h | h := inService <;> simp only [h]

end

/-- Settles O24: the two parameters in their order, then the line's control state. -/
theorem setPeriodLoads : Obligations.SetPeriodLoads := by
  intro s p taken
  refine ⟨fun line => next_completeCommand taken (setPeriod_badParam (periodInRange_badLine line)), fun x line => ?_⟩
  refine ⟨fun low => ?_, fun value resting => next_completeCommand taken (setPeriod_resting line value resting),
    fun value inService => next_completeCommand taken (setPeriod_inService line value inService)⟩
  have position := (periodInRange_line line).trans (if_neg (Nat.not_le.2 low))
  exact next_completeCommand taken (setPeriod_badParam position)

/-! ### What a cycle start does (R39, R40) -/

section
variable {g : LineEngine} {c : SweepController}

theorem cycleStartEffect_off (h : g.control ≠ .running ∨ g.windDown = true) : cycleStartEffect g c = .discarded := by
  unfold cycleStartEffect
  exact if_pos h

/-- On a RUNNING line without wind-down the sweep state, the pending start and the exchange decide. -/
theorem cycleStartEffect_on (running : g.control = .running) (quiet : g.windDown = false) :
    cycleStartEffect g c =
      if c.state = .inactive then .discarded
      else if c.pendingStart then .dropped
      else if c.state = .sweeping then .deferred
      else if g.exchange.isSome then .held
      else .started := by
  unfold cycleStartEffect
  rw [if_neg (by simp [running, quiet])]
  cases c.state <;> simp

end

/-- Settles O25: each branch of the table, read off the effect. -/
theorem cycleStartsActByTheirTable : Obligations.CycleStartsActByTheirTable := by
  intro s x kind
  dsimp only
  refine ⟨fun off => ?_, fun running quiet between none free => ?_, fun running quiet between none busy => ?_,
    fun running quiet sweeping none => ?_, fun running quiet active pending => ?_⟩
  · simp only [cycleStart, cycleStartEffect_off off]
  · have effect : cycleStartEffect (s.engineAt x) (s.sweepAt x) = .started := by
      simp [cycleStartEffect_on running quiet, between, none, free]
    simp only [cycleStart, effect]
  · have effect : cycleStartEffect (s.engineAt x) (s.sweepAt x) = .held := by
      simp [cycleStartEffect_on running quiet, between, none, Option.isSome_iff_ne_none, busy]
    simp only [cycleStart, effect]
  · have effect : cycleStartEffect (s.engineAt x) (s.sweepAt x) = .deferred := by
      simp [cycleStartEffect_on running quiet, sweeping, none]
    simp only [cycleStart, effect]
    rfl
  · have effect : cycleStartEffect (s.engineAt x) (s.sweepAt x) = .dropped := by
      simp [cycleStartEffect_on running quiet, active, pending]
    simp only [cycleStart, effect]
    rfl

/-! ### The sources of cycle starts (R42, R44, R45) -/

/-- RESULT1 of a SWEEP_NOW, by what its cycle start does (R45). -/
theorem sweepNowDetail_effect {g : LineEngine} {c : SweepController} (running : g.control = .running)
    (quiet : g.windDown = false) (active : c.state ≠ .inactive) :
    sweepNowDetail (cycleStartEffect g c) =
      if c.pendingStart then 2 else if c.state = .sweeping ∨ g.exchange ≠ none then 1 else 0 := by
  rw [cycleStartEffect_on running quiet, if_neg active]
  by_cases pending : c.pendingStart = true
  · simp only [pending, if_true, sweepNowDetail]
  by_cases sweeping : c.state = .sweeping
  · simp [pending, sweeping, sweepNowDetail]
  · cases g.exchange <;> simp [pending, sweeping, sweepNowDetail]

section
variable {p : TakenCommand} {s : State} {x : Line}

theorem sweepNow_badLine (line : 2 ≤ (loByte p.param0).toNat) : sweepNow p s = refuse s .badParam 1 := by
  unfold sweepNow
  exact if_pos (Nat.not_lt.2 line)

/-- SWEEP_NOW's checks and effects on a line (R45). -/
theorem sweepNow_line (line : loByte p.param0 = lineCode x) :
    sweepNow p s =
      if s.supervision.state = .expired then refuse s .expired 0
      else if (s.engineAt x).control ≠ .running ∨ (s.engineAt x).config.mode ≠ .single then refuse s .wrongState 0
      else
        { state := cycleStart x .sweepNow s, result := .ok,
          detail := sweepNowDetail (cycleStartEffect (s.engineAt x) (s.sweepAt x)) } := by
  unfold sweepNow
  simp only [fieldOf_low, line, lineOfNat_lineCode, lineCode_lt, not_true_eq_false, if_false]

end

/-- Settles O26: the timer, SYNC and SWEEP_NOW, each with its guard. -/
theorem cycleStartSources : Obligations.CycleStartSources := by
  intro s x
  refine ⟨fun runs => congrArg Host.Outcome.next (if_pos runs),
    fun running triggered => congrArg Host.Outcome.next (if_pos ⟨running, triggered⟩), fun other => ?_,
    fun p taken line => next_completeCommand taken (sweepNow_badLine line), fun p taken line => ?_⟩
  · exact congrArg Host.Outcome.next (if_neg fun both => other.elim (· both.1) (· both.2))
  have body := sweepNow_line (s := s) line
  refine ⟨fun expired => next_completeCommand taken (body.trans (if_pos expired)),
    fun alive off => next_completeCommand taken (body.trans ((if_neg alive).trans (if_pos off))),
    fun alive running single quiet active => ?_⟩
  have on : ¬ ((s.engineAt x).control ≠ .running ∨ (s.engineAt x).config.mode ≠ .single) := by simp [running, single]
  rw [if_neg alive, if_neg on, sweepNowDetail_effect running quiet active] at body
  exact next_completeCommand taken body

/-! ### The steps of a sweep start (R24, R29, R30) -/

theorem startSweep_sweepAt (x : Line) (s : State) :
    (startSweep x s).sweepAt x = (s.sweepAt x).started (s.engineAt x).config.markEnable :=
  sweepAt_modSweep_self s x _

theorem startSweep_sweepAt_ne {x y : Line} (s : State) (h : y ≠ x) : (startSweep x s).sweepAt y = s.sweepAt y := by
  rw [startSweep, sweepAt_modSweep, if_neg h]

/-- Settles O27, from what a sweep start makes of the line's Sweep Controller. -/
theorem sweepStartSteps : Obligations.SweepStartSteps := by
  intro s x y other
  dsimp only
  rw [startSweep_sweepAt, startSweep_sweepAt_ne s other]
  refine ⟨rfl, rfl, fun list present => ?_, fun absent => ?_, rfl, rfl, rfl, rfl, rfl, rfl, rfl, rfl, rfl, rfl, rfl, rfl,
    rfl, rfl, rfl⟩
  · simp [SweepController.started, present]
  · simp [SweepController.started, absent]

/-! ### Picks between sweeps (R34 to R38, R41) -/

section
variable {s : State} {x : Line}

theorem service_pendingStart (start : (s.sweepAt x).pendingStart = true) : service x s = freshSweep x s := by
  unfold service
  exact if_pos start

theorem service_urgent (start : (s.sweepAt x).pendingStart = false) (head : s.fifo x .urgent ≠ []) :
    service x s = takeHead x .urgent s := by
  simp [service, start, head]

/-- With no urgent request waiting the normal head is taken, in REPEAT mode once a sweep; with none to take a REPEAT
line goes on to its next sweep or waits, and another line rests. -/
theorem service_noUrgent (start : (s.sweepAt x).pendingStart = false) (empty : s.fifo x .urgent = []) :
    service x s =
      if s.fifo x .normal ≠ [] ∧ ((s.engineAt x).config.mode = .repeating → (s.sweepAt x).normalServed = false) then
        takeNormal x s
      else if (s.engineAt x).config.mode = .repeating then
        if (s.sweepAt x).exchangeTaken = true then freshSweep x s else (enterGuard x s, none)
      else (s, none) := by
  have takes : (!(s.fifo x .normal).isEmpty
      && !(decide ((s.engineAt x).config.mode = .repeating) && (s.sweepAt x).normalServed)) = true
        ↔ s.fifo x .normal ≠ []
          ∧ ((s.engineAt x).config.mode = .repeating → (s.sweepAt x).normalServed = false) := by
    simp [Decidable.imp_iff_not_or]
  unfold service
  dsimp only
  rw [if_neg (by simp [start]), if_neg (by simp [empty])]
  simp only [takes]
  rfl

end

/-- Settles O29: a pick between sweeps is the service, whose branches are taken in order. -/
theorem picksBetweenSweeps : Obligations.PicksBetweenSweeps := by
  intro s x between
  dsimp only
  rw [pick_between between]
  refine ⟨service_pendingStart, fun start d rest head => ?_, fun start empty d rest head => ⟨fun once => ?_,
    fun repeating unserved => ?_⟩, fun start empty => ⟨fun once none => ?_, fun repeating done => ?_⟩⟩
  · rw [service_urgent start (by simp [head]), takeHead_cons head]
  · rw [service_noUrgent start empty, if_pos ⟨by simp [head], fun repeating => absurd repeating once⟩, takeNormal,
      if_neg once, takeHead_cons head]
  · rw [service_noUrgent start empty, if_pos ⟨by simp [head], fun _ => unserved⟩, takeNormal, if_pos repeating,
      takeHead_cons (by simpa using head), modSweep_descriptorAt]
  · rw [service_noUrgent start empty, if_neg fun takes => takes.1 none, if_neg once]
  · have notTaken : ¬ (s.fifo x .normal ≠ []
        ∧ ((s.engineAt x).config.mode = .repeating → (s.sweepAt x).normalServed = false)) := fun ⟨head, unserved⟩ =>
      done.elim head fun served => by simp [unserved repeating] at served
    rw [service_noUrgent start empty, if_neg notTaken, if_pos repeating]
    exact ⟨fun taken => if_pos taken, fun none => if_neg (by simp [none])⟩

end Sys2Proof.Machine
end

section
/-! One microsecond (log 2): what it makes of each timer and of a falling edge, and what it puts into the queue (R42, R53,
R54, R59 to R61, R74, R85, R134, R142). -/

namespace Sys2Proof.Machine

/-! ### A Line Engine after one microsecond (R74, R75, R81, R85) -/

/-- The timers of a Line Engine after one microsecond, but for the falling edge that waits for its middle sample. -/
def LineEngine.timersCounted (g : LineEngine) : LineEngine :=
  { g with span := g.span.map fun left => left - 1, lowSpan := g.lowSpan.map fun left => left - 1,
           reception := g.reception.map fun r => { r with elapsed := r.elapsed + 1 },
           sending := g.sending.map fun tx => { tx with elapsed := tx.elapsed + 1 } }

theorem LineEngine.counted_eq (g : LineEngine) :
    g.counted = { g.timersCounted with edge := g.edge.map FallingEdge.tick } := rfl

section
variable {g : LineEngine} {e : FallingEdge}

theorem LineEngine.counted_of_edge (h : g.edge = some e) : g.counted = { g.timersCounted with edge := some e.tick } := by
  rw [counted_eq, h]
  rfl

theorem LineEngine.tick_no_edge (rx : PinLevel) (h : g.edge = none) : g.tick rx = g.timersCounted := by
  have none : g.timersCounted.edge = none := h
  have counted : g.counted = g.timersCounted := by
    rw [counted_eq, h, Option.map_none, ← none]
  simp only [tick, counted, sampled, none]

theorem LineEngine.tick_before_sample (rx : PinLevel) (h : g.edge = some e) (waits : 1 < e.left) :
    g.tick rx = { g.timersCounted with edge := some e.tick } := by
  have left : 0 < e.tick.left := Nat.sub_pos_of_lt waits
  simp only [tick, counted_of_edge h, sampled, left, if_true]

theorem LineEngine.tick_low_sample (h : g.edge = some e) (due : e.left ≤ 1) :
    g.tick .low = { g.timersCounted with edge := none } := by
  have left : ¬ 0 < e.tick.left := by simp [FallingEdge.tick, due]
  simp only [tick, counted_of_edge h, sampled, left, if_false]

theorem LineEngine.tick_high_sample (h : g.edge = some e) (due : e.left ≤ 1) :
    g.tick .high = ({ g.timersCounted with edge := some e.tick } : LineEngine).sampledHigh e.tick := by
  have left : ¬ 0 < e.tick.left := by simp [FallingEdge.tick, due]
  simp only [tick, counted_of_edge h, sampled, left, if_false]

end

/-- An edge behind the first after one microsecond. -/
def LaterEdge.tick (l : LaterEdge) : LaterEdge := { l with left := l.left - 1 }

/-- Edges whose own sample has come wait no more. -/
theorem filter_later_gone {gone : List LaterEdge} (h : ∀ k ∈ gone, k.left ≤ 1) :
    (gone.map LaterEdge.tick).filter (fun l => decide (0 < l.left)) = [] := by
  simpa [List.filter_eq_nil_iff, LaterEdge.tick, Nat.sub_eq_zero_iff_le] using h

/-- Edges whose own sample is still to come wait on. -/
theorem filter_later_waiting {rest : List LaterEdge} (h : ∀ k ∈ rest, 1 < k.left) :
    (rest.map LaterEdge.tick).filter (fun l => decide (0 < l.left)) = rest.map LaterEdge.tick := by
  simpa [List.filter_eq_self, LaterEdge.tick] using h

section
variable {g : LineEngine} {e : FallingEdge}

/-- With no other edge waiting the rejected edge leaves the line as if it had not occurred (R74). -/
theorem LineEngine.tick_rejected (h : g.edge = some e) (due : e.left ≤ 1) (gone : ∀ l ∈ e.later, l.left ≤ 1) :
    g.tick .high =
      { g.timersCounted with
        edge := none, reception := none, span := e.span.map fun left => left - 1, exState := g.stateBefore e } := by
  have later : e.tick.later.filter (fun l => decide (0 < l.left)) = [] := filter_later_gone gone
  rw [tick_high_sample h due, sampledHigh, later]
  rfl

/-- Else the next edge whose own sample is still to come stands in its place (R74; log 11). -/
theorem LineEngine.tick_replaced {gone rest : List LaterEdge} {l : LaterEdge} (h : g.edge = some e) (due : e.left ≤ 1)
    (parts : e.later = gone ++ l :: rest) (past : ∀ k ∈ gone, k.left ≤ 1) (next : 1 < l.left)
    (waiting : ∀ k ∈ rest, 1 < k.left) :
    g.tick .high =
      { g.timersCounted with
        edge := some { e.tick with left := l.left - 1, overdue := l.overdue, later := rest.map LaterEdge.tick },
        reception := g.reception.map fun r =>
          { elapsed := r.elapsed + 1 - (l.left - 1), lastEdge := r.lastEdge - (l.left - 1) } } := by
  have later : e.tick.later.filter (fun l => decide (0 < l.left)) = l.tick :: rest.map LaterEdge.tick := by
    have ticked : e.tick.later = gone.map LaterEdge.tick ++ (l :: rest).map LaterEdge.tick := by
      rw [← List.map_append, ← parts]
      rfl
    rw [ticked, List.filter_append, filter_later_gone past, List.nil_append,
      filter_later_waiting (List.forall_mem_cons.2 ⟨next, waiting⟩), List.map_cons]
  rw [tick_high_sample h due, sampledHigh, later]
  simp only [timersCounted, Option.map_map]
  rfl

end

/-! ### What falls due (R42, R53, R85, R134, R142) -/

theorem mem_sweepDue {c : SweepController} {x : Line} {i : Instr} :
    i ∈ c.due x ↔ i = .cycleTimerExpiry x ∧ c.timerRunning = true ∧ c.counter ≤ 1 := by
  unfold SweepController.due
  split <;> simp_all

theorem mem_dueSending {g : LineEngine} {x : Line} {i : Instr} :
    i ∈ g.dueSending x ↔
      (i = .callFrameSent x ∧ g.abortPending = false
        ∧ ∃ tx, g.sending = some tx ∧ g.config.characterTime * tx.frame.length ≤ tx.elapsed + 1)
      ∨ (i = .abortTailEnd x ∧ g.abortPending = true
        ∧ ∃ tx, g.sending = some tx ∧ (tx.elapsed + 1) % g.config.characterTime = 0) := by
  unfold LineEngine.dueSending
  cases g.sending with
  | none => simp
  | some tx =>
    cases g.abortPending with
    | false => by_cases h : g.config.characterTime * tx.frame.length ≤ tx.elapsed + 1 <;> simp [h]
    | true => by_cases h : (tx.elapsed + 1) % g.config.characterTime = 0 <;> simp [h]

theorem mem_dueBreak {g : LineEngine} {x : Line} {i : Instr} :
    i ∈ g.dueBreak x ↔ i = .breakDetected x ∧ ∃ left, g.lowSpan = some left ∧ left ≤ 1 := by
  unfold LineEngine.dueBreak
  cases g.lowSpan with
  | none => simp
  | some left => by_cases h : 1 < left <;> simp [h, Nat.not_lt.1, Nat.not_le.2]

theorem mem_supervisionDue {t : SupervisionTimer} {i : Instr} :
    i ∈ t.due ↔ i = .supervisionExpiry ∧ t.state = .armed ∧ 1000 ≤ t.subMs + 1 ∧ t.countdown ≤ 1 := by
  unfold SupervisionTimer.due microsPerMs
  split <;> simp_all

/-- The exchange states whose span expires, each with the row of its expiry (R54, R59, R60, R61). -/
def spanRows (x : Line) : List (ExchangeState × Instr) :=
  [(.awaiting, .answerTimeout x), (.receiving, .gapLimitExpiry x), (.draining, .drainSilenceEnd x),
    (.guarding, .guardTimeExpiry x)]

/-- The one state whose span's expiry is this row. -/
theorem mem_expiryOf {x : Line} {state : ExchangeState} {expiry : Instr} (row : (state, expiry) ∈ spanRows x)
    (u : ExchangeState) : expiry ∈ expiryOf x u ↔ u = state := by
  simp only [spanRows, List.mem_cons, Prod.mk.injEq, List.not_mem_nil, or_false] at row
  obtain ⟨rfl, rfl⟩ | ⟨rfl, rfl⟩ | ⟨rfl, rfl⟩ | ⟨rfl, rfl⟩ := row <;> cases u <;> simp [expiryOf]

/-- The rows one line can make due, in the order in which `lineDue` names them. -/
def timerRows (x : Line) : List Instr :=
  [.cycleTimerExpiry x] ++ [.callFrameSent x, .abortTailEnd x] ++ (spanRows x).map Prod.snd ++ [.breakDetected x]

theorem timerRows_perm (x : Line) :
    (timerRows x).Perm [.cycleTimerExpiry x, .answerTimeout x, .gapLimitExpiry x, .drainSilenceEnd x, .guardTimeExpiry x,
      .breakDetected x, .callFrameSent x, .abortTailEnd x] := by
  cases x <;> decide

theorem sweepDue_sublist (c : SweepController) (x : Line) : (c.due x).Sublist [.cycleTimerExpiry x] := by
  unfold SweepController.due
  split
  · exact .refl _
  · exact List.nil_sublist _

theorem dueSending_sublist (g : LineEngine) (x : Line) :
    (g.dueSending x).Sublist [.callFrameSent x, .abortTailEnd x] := by
  unfold LineEngine.dueSending
  split
  · exact List.nil_sublist _
  split
  · split <;> simp
  · split <;> simp

theorem expiryOf_sublist (x : Line) (u : ExchangeState) : (expiryOf x u).Sublist ((spanRows x).map Prod.snd) := by
  cases u <;> simp [expiryOf, spanRows]

theorem dueSpan_sublist (g : LineEngine) (x : Line) : (g.dueSpan x).Sublist ((spanRows x).map Prod.snd) := by
  unfold LineEngine.dueSpan
  split <;> split
  · exact expiryOf_sublist x _
  · exact List.nil_sublist _
  · exact expiryOf_sublist x _
  · exact List.nil_sublist _

theorem dueBreak_sublist (g : LineEngine) (x : Line) : (g.dueBreak x).Sublist [.breakDetected x] := by
  unfold LineEngine.dueBreak
  split
  · exact List.nil_sublist _
  split
  · exact List.nil_sublist _
  · exact .refl _

theorem supervisionDue_sublist (t : SupervisionTimer) : t.due.Sublist [.supervisionExpiry] := by
  unfold SupervisionTimer.due
  split
  · exact .refl _
  · exact List.nil_sublist _

theorem lineDue_sublist (s : State) (x : Line) : (lineDue s x).Sublist (timerRows x) :=
  (((sweepDue_sublist _ x).append (dueSending_sublist _ x)).append (dueSpan_sublist _ x)).append (dueBreak_sublist _ x)

/-- Every row one microsecond can make due, each once. -/
theorem allDue_sublist (s : State) :
    (allDue s).Sublist ([.supervisionExpiry] ++ timerRows .a ++ timerRows .b) :=
  ((supervisionDue_sublist _).append (lineDue_sublist s .a)).append (lineDue_sublist s .b)

theorem allDue_nodup (s : State) : (allDue s).Nodup := (allDue_sublist s).nodup (by decide)

theorem timerRows_disjoint : ∀ x y, y ≠ x → ∀ i ∈ timerRows x, i ∉ timerRows y := by
  intro x y
  cases x <;> cases y <;> decide

theorem supervisionExpiry_notMem_timerRows (x : Line) : .supervisionExpiry ∉ timerRows x := by cases x <;> decide

/-- A line's row is made due by that line alone. -/
theorem mem_allDue_timerRows {s : State} {x : Line} {i : Instr} (row : i ∈ timerRows x) :
    i ∈ allDue s ↔ i ∈ lineDue s x := by
  have other : ∀ y, y ≠ x → i ∉ lineDue s y := fun y hy due =>
    timerRows_disjoint x y hy i row ((lineDue_sublist s y).subset due)
  have notSupervision : i ∉ s.supervision.due := fun due => by
    obtain ⟨rfl, _⟩ := mem_supervisionDue.1 due
    exact supervisionExpiry_notMem_timerRows x row
  cases x <;> simp [allDue, notSupervision, other]

theorem supervisionExpiry_mem_allDue {s : State} :
    .supervisionExpiry ∈ allDue s ↔ .supervisionExpiry ∈ s.supervision.due := by
  have notLine : ∀ x, .supervisionExpiry ∉ lineDue s x := fun x due =>
    supervisionExpiry_notMem_timerRows x ((lineDue_sublist s x).subset due)
  simp [allDue, notLine]

/-! ### What one microsecond does to the state -/

/-- What falls due enters the queue; of the rest of the state free values are used up. -/
theorem enqueueDue_frame (cs : List Instr) (s : State) :
    enqueueDue cs s = { s with pending := (enqueueDue cs s).pending, freeCount := (enqueueDue cs s).freeCount } := by
  induction cs generalizing s with
  | nil => rfl
  | cons c rest ih =>
    unfold enqueueDue
    exact ih _

/-- It enters in some order, each occurrence once (log 5). -/
theorem enqueueDue_pending (cs : List Instr) (s : State) : (enqueueDue cs s).pending.Perm (cs ++ s.pending) := by
  induction cs generalizing s with
  | nil => exact .refl _
  | cons c rest ih =>
    have place : s.takeFree.1 % (s.pending.length + 1) ≤ s.pending.length :=
      Nat.le_of_lt_succ (Nat.mod_lt _ (by omega))
    unfold enqueueDue
    exact (ih _).trans (((List.perm_insertIdx c s.pending place).append_left rest).trans List.perm_middle)

theorem tick_pending {s : State} (empty : s.pending = []) : (tick s).pending.Perm (allDue s) := by
  unfold tick
  refine (enqueueDue_pending _ _).trans ?_
  dsimp only
  rw [empty, List.append_nil]

/-- The timers' blocks after one microsecond, and everything else as it was. -/
theorem tick_frame (s : State) :
    tick s =
      { s with pending := (tick s).pending, freeCount := (tick s).freeCount, supervision := s.supervision.tick,
               sweep := { a := s.sweep.a.tick, b := s.sweep.b.tick },
               engine := { a := s.engine.a.tick s.pins.rx.a, b := s.engine.b.tick s.pins.rx.b } } :=
  enqueueDue_frame _ _

theorem tick_supervision (s : State) : (tick s).supervision = s.supervision.tick := by rw [tick_frame]

theorem tick_sweepAt (s : State) (x : Line) : (tick s).sweepAt x = (s.sweepAt x).tick := by
  rw [tick_frame]
  cases x <;> rfl

theorem tick_engineAt (s : State) (x : Line) : (tick s).engineAt x = (s.engineAt x).tick (s.pins.rx.get x) := by
  rw [tick_frame]
  cases x <;> rfl

/-! ### The rows of one line -/

section
variable {s : State} {x : Line}

theorem mem_lineDue {i : Instr} :
    i ∈ lineDue s x ↔
      i ∈ (s.sweepAt x).due x ∨ i ∈ (s.engineAt x).dueSending x
        ∨ i ∈ ((s.engineAt x).tick (s.pins.rx.get x)).dueSpan x ∨ i ∈ (s.engineAt x).dueBreak x := by
  simp [lineDue]

/-- A row that is no expiry of a span is made due by the cycle timer, the frame or the break measurement. -/
theorem mem_lineDue_of_other {i : Instr} (other : i ∉ (spanRows x).map Prod.snd) :
    i ∈ lineDue s x ↔
      i ∈ (s.sweepAt x).due x ∨ i ∈ (s.engineAt x).dueSending x ∨ i ∈ (s.engineAt x).dueBreak x := by
  have notSpan (g : LineEngine) : i ∉ g.dueSpan x := fun due => other ((dueSpan_sublist g x).subset due)
  simp [mem_lineDue, notSpan]

theorem cycleTimerExpiry_mem_lineDue :
    .cycleTimerExpiry x ∈ lineDue s x ↔ (s.sweepAt x).timerRunning = true ∧ (s.sweepAt x).counter ≤ 1 := by
  rw [mem_lineDue_of_other (by simp [spanRows])]
  simp [mem_sweepDue, mem_dueSending, mem_dueBreak]

theorem breakDetected_mem_lineDue :
    .breakDetected x ∈ lineDue s x ↔ ∃ left, (s.engineAt x).lowSpan = some left ∧ left ≤ 1 := by
  rw [mem_lineDue_of_other (by simp [spanRows])]
  simp [mem_sweepDue, mem_dueSending, mem_dueBreak]

theorem callFrameSent_mem_lineDue :
    .callFrameSent x ∈ lineDue s x ↔ (s.engineAt x).abortPending = false
      ∧ ∃ tx, (s.engineAt x).sending = some tx
        ∧ (s.engineAt x).config.characterTime * tx.frame.length ≤ tx.elapsed + 1 := by
  rw [mem_lineDue_of_other (by simp [spanRows])]
  simp [mem_sweepDue, mem_dueSending, mem_dueBreak]

theorem abortTailEnd_mem_lineDue :
    .abortTailEnd x ∈ lineDue s x ↔ (s.engineAt x).abortPending = true
      ∧ ∃ tx, (s.engineAt x).sending = some tx ∧ (tx.elapsed + 1) % (s.engineAt x).config.characterTime = 0 := by
  rw [mem_lineDue_of_other (by simp [spanRows])]
  simp [mem_sweepDue, mem_dueSending, mem_dueBreak]

/-- The expiry of a state's span is due where the span of that state has run out with no edge waiting, or where it was
held behind a rejected edge and only edges wait that fell behind it (R74). -/
theorem expiry_mem_lineDue {state : ExchangeState} {expiry : Instr} (row : (state, expiry) ∈ spanRows x) :
    let u := (s.engineAt x).tick (s.pins.rx.get x)
    expiry ∈ lineDue s x ↔
      u.edge = none ∧ u.exState = state ∧ u.span = some 0
        ∨ ∃ e, u.edge = some e ∧ e.overdue = true ∧ e.span = some 0 ∧ u.stateBefore e = state := by
  have listed : expiry ∈ (spanRows x).map Prod.snd := List.mem_map_of_mem row
  have span : expiry ∈ lineDue s x ↔ expiry ∈ ((s.engineAt x).tick (s.pins.rx.get x)).dueSpan x := by
    simp only [spanRows, List.map_cons, List.map_nil, List.mem_cons, List.not_mem_nil, or_false] at listed
    obtain rfl | rfl | rfl | rfl := listed <;> simp [mem_lineDue, mem_sweepDue, mem_dueSending, mem_dueBreak]
  dsimp only
  rw [span, mem_dueSpan]
  simp only [mem_expiryOf row, and_comm (a := _ = some 0)]

end

/-! ### The passing of time -/

/-- A Supervision Timer that is ARMED counts its milliseconds (R142). -/
theorem SupervisionTimer.tick_armed {t : SupervisionTimer} (armed : t.state = .armed) :
    t.tick = if t.subMs + 1 < 1000 then { t with subMs := t.subMs + 1 }
      else { t with subMs := 0, countdown := t.countdown - 1 } := by
  simp only [tick, armed, microsPerMs]

theorem SupervisionTimer.tick_idle {t : SupervisionTimer} (idle : t.state ≠ .armed) : t.tick = t := by
  unfold tick
  split
  · next armed => exact absurd armed idle
  · rfl
  · rfl

/-- Settles O3: the state after one microsecond block by block, and the queue as a permutation of what falls due. -/
theorem timersCountOnAnEmptyQueue : Obligations.TimersCountOnAnEmptyQueue := by
  intro s empty
  have queued (i : Instr) : i ∈ (tick s).pending ↔ i ∈ allDue s := (tick_pending empty).mem_iff
  have queuedRow {x : Line} {i : Instr} (row : i ∈ timerRows x) : i ∈ (tick s).pending ↔ i ∈ lineDue s x :=
    (queued i).trans (mem_allDue_timerRows row)
  refine ⟨tick s, by simp only [step, empty], ?_, fun x => ?_, fun armed => ⟨?_, ?_⟩, fun idle => ⟨?_, ?_⟩,
    (tick_pending empty).nodup_iff.2 (allDue_nodup s), fun c waiting => ?_⟩
  · rw [tick_frame]
  · dsimp only
    rw [tick_engineAt]
    refine ⟨(tick_sweepAt s x).trans (SweepController.tick_eq _),
      (queuedRow (by simp [timerRows])).trans cycleTimerExpiry_mem_lineDue, LineEngine.tick_no_edge _,
      fun e edge => ⟨LineEngine.tick_before_sample _ edge, fun due low => ?_, fun due high => ⟨fun gone => ?_,
        fun gone l rest parts past next waiting => ?_⟩⟩,
      fun state expiry row => ?_,
      (queuedRow (by simp [timerRows])).trans breakDetected_mem_lineDue,
      (queuedRow (by simp [timerRows])).trans callFrameSent_mem_lineDue,
      (queuedRow (by simp [timerRows])).trans abortTailEnd_mem_lineDue⟩
    · rw [low]
      exact LineEngine.tick_low_sample edge due
    · rw [high]
      exact LineEngine.tick_rejected edge due gone
    · rw [high]
      exact LineEngine.tick_replaced edge due parts past next waiting
    · have listed : expiry ∈ timerRows x := by
        simp only [timerRows, List.mem_append]
        exact .inl (.inr (List.mem_map_of_mem row))
      exact (queuedRow listed).trans (expiry_mem_lineDue row)
  · rw [tick_supervision, SupervisionTimer.tick_armed armed]
  · rw [queued, supervisionExpiry_mem_allDue, mem_supervisionDue]
    simp [armed]
  · rw [tick_supervision, SupervisionTimer.tick_idle idle]
  · rw [queued, supervisionExpiry_mem_allDue, mem_supervisionDue]
    simp [idle]
  · have row := (allDue_sublist s).subset ((queued c).1 waiting)
    simp only [List.mem_append, List.mem_singleton] at row
    obtain (rfl | row) | row := row
    · exact .inl rfl
    · exact .inr ⟨.a, (timerRows_perm .a).subset row⟩
    · exact .inr ⟨.b, (timerRows_perm .b).subset row⟩

end Sys2Proof.Machine
end

section
/-! The dispatch: every command answers a next state and leaves the queue of commands (logs 1 and 2). Most commands are
`Reporting`; the accesses to the Arbiter and the Event Queue, and the resets, keep the queue by their definitions. -/

namespace Sys2Proof.Machine

/-- A guarded update, as every strobe through the window is one. -/
theorem ite_pending {c : Prop} [Decidable c] {s t u : State} (ht : t.pending = s.pending) (hu : u.pending = s.pending) :
    (if c then t else u).pending = s.pending := by
  split
  · exact ht
  · exact hu

theorem completeCommand_pending (code : Byte) {body : TakenCommand → State → Completion} {s : State}
    (h : ∀ p, Reporting s (body p s).state) : (completeCommand code body s).pending = s.pending :=
  (completeCommand_reporting code body s h).pending

/-! ### The Arbiter's and the Event Queue's registers -/

theorem intClaim_pending (lanes : Lanes) (s : State) : (intClaim lanes s).pending = s.pending := by
  unfold intClaim
  dsimp only
  split <;> rfl

theorem intEos_pending (s : State) : (intEos s).pending = s.pending := by
  unfold intEos
  split <;> rfl

theorem intSvcWrite_pending (lanes : Lanes) (data : Word) (s : State) :
    (intSvcWrite lanes data s).pending = s.pending :=
  ite_pending (ite_pending rfl rfl) rfl

theorem intStatusRead_pending (lanes : Lanes) (s : State) : (intStatusRead lanes s).pending = s.pending :=
  ite_pending rfl rfl

theorem intPendWrite_pending (lanes : Lanes) (data : Word) (s : State) :
    (intPendWrite lanes data s).pending = s.pending :=
  ite_pending rfl rfl

theorem windowWrite_pending (address : WindowAddress) (lanes : Lanes) (data : Word) (s : State) :
    (windowWrite address lanes data s).pending = s.pending := by
  unfold windowWrite
  cases writableAt address with
  | none => rfl
  | some register =>
    cases register with
    | cmd => exact (cmdWrite_reporting lanes data s).pending
    | param0 | param1 | param2 | param3 | evtAdvance | intLevels0 | intLevels1 => rfl
    | viewOffset => exact (viewOffsetWrite_reporting lanes data s).pending
    | data => exact (dataWrite_reporting lanes data s).pending
    | intEos => exact intEos_pending s
    | intSvc => exact intSvcWrite_pending lanes data s
    | intPend => exact intPendWrite_pending lanes data s
    | supvRefresh => exact (supvRefresh_reporting s).pending

/-! ### The dispatch -/

/-- Settles O2: the commands one by one. -/
theorem commandsEndAndLeaveTheQueue : Obligations.CommandsEndAndLeaveTheQueue := by
  intro c s
  cases c with
  | defineStation => exact ⟨_, rfl, completeCommand_pending _ (defineStation_reporting · s)⟩
  | dropStation => exact ⟨_, rfl, completeCommand_pending _ (dropStation_reporting · s)⟩
  | enableStation => exact ⟨_, rfl, completeCommand_pending _ (enableStation_reporting · s)⟩
  | disableStation => exact ⟨_, rfl, completeCommand_pending _ (disableStation_reporting · s)⟩
  | setStationLimits => exact ⟨_, rfl, completeCommand_pending _ (setStationLimits_reporting · s)⟩
  | loadSweep => exact ⟨_, rfl, completeCommand_pending _ (loadSweep_reporting · s)⟩
  | setLine => exact ⟨_, rfl, completeCommand_pending _ (setLine_reporting · s)⟩
  | setPeriod => exact ⟨_, rfl, completeCommand_pending _ (setPeriod_reporting · s)⟩
  | startLine => exact ⟨_, rfl, completeCommand_pending _ (startLine_reporting · s)⟩
  | stopLine => exact ⟨_, rfl, completeCommand_pending _ (stopLine_reporting · s)⟩
  | abortLine => exact ⟨_, rfl, completeCommand_pending _ (abortLine_reporting · s)⟩
  | sweepNow => exact ⟨_, rfl, completeCommand_pending _ (sweepNow_reporting · s)⟩
  | postRequest => exact ⟨_, rfl, completeCommand_pending _ (postRequest_reporting · s)⟩
  | cancelRequest => exact ⟨_, rfl, completeCommand_pending _ (cancelRequest_reporting · s)⟩
  | flushRequests => exact ⟨_, rfl, completeCommand_pending _ (flushRequests_reporting · s)⟩
  | collectRequest => exact ⟨_, rfl, completeCommand_pending _ (collectRequest_reporting · s)⟩
  | commitCall => exact ⟨_, rfl, completeCommand_pending _ (commitCall_reporting · s)⟩
  | openView => exact ⟨_, rfl, completeCommand_pending _ (openView_reporting · s)⟩
  | closeView => exact ⟨_, rfl, completeCommand_pending _ (closeView_reporting · s)⟩
  | setSupervision => exact ⟨_, rfl, completeCommand_pending _ (setSupervision_reporting · s)⟩
  | softReset => exact ⟨_, rfl, ite_pending rfl rfl⟩
  | unknownCommand => exact ⟨_, rfl, (unknownCommand_reporting s).pending⟩
  | commandCollision lanes data => exact ⟨_, rfl, ite_pending (cmdWrite_reporting lanes data s).pending rfl⟩
  | evtAdvance _ _ => exact ⟨_, rfl, ite_pending rfl rfl⟩
  | intClaim lanes => exact ⟨_, rfl, ite_pending (intClaim_pending lanes s) rfl⟩
  | intEos _ _ => exact ⟨_, rfl, ite_pending (intEos_pending s) rfl⟩
  | intSvcWrite lanes data => exact ⟨_, rfl, ite_pending (intSvcWrite_pending lanes data s) rfl⟩
  | intStatusRead lanes => exact ⟨_, rfl, ite_pending (intStatusRead_pending lanes s) rfl⟩
  | intPendWrite lanes data => exact ⟨_, rfl, ite_pending (intPendWrite_pending lanes data s) rfl⟩
  | intLevelsWrite _ _ _ => exact ⟨_, rfl, ite_pending rfl rfl⟩
  | supvRefresh _ _ => exact ⟨_, rfl, ite_pending (supvRefresh_reporting s).pending rfl⟩
  | dataRead lanes => exact ⟨_, rfl, ite_pending (dataRead_reporting lanes s).pending rfl⟩
  | dataWrite lanes data => exact ⟨_, rfl, ite_pending (dataWrite_reporting lanes data s).pending rfl⟩
  | viewOffsetWrite lanes data => exact ⟨_, rfl, ite_pending (viewOffsetWrite_reporting lanes data s).pending rfl⟩
  | registerWrite address lanes data => exact ⟨_, rfl, ite_pending (windowWrite_pending address lanes data s) rfl⟩
  | pinResetAssert => exact ⟨_, rfl, ite_pending rfl rfl⟩
  | pinResetRelease => exact ⟨_, rfl, ite_pending rfl rfl⟩
  | readyAfterReset => exact ⟨_, rfl, (readyAfterReset_reporting s).pending⟩
  | syncFallingEdge x => exact ⟨_, rfl, (syncFallingEdge_reporting x s).pending⟩
  | characterReceived x data mark stop => exact ⟨_, rfl, (characterReceived_reporting x data mark stop s).pending⟩
  | callFrameSent x => exact ⟨_, rfl, (callFrameSent_reporting x s).pending⟩
  | abortTailEnd x => exact ⟨_, rfl, (abortTailEnd_reporting x s).pending⟩
  | answerTimeout x => exact ⟨_, rfl, (answerTimeout_reporting x s).pending⟩
  | gapLimitExpiry x => exact ⟨_, rfl, (gapLimitExpiry_reporting x s).pending⟩
  | drainSilenceEnd x => exact ⟨_, rfl, (drainSilenceEnd_reporting x s).pending⟩
  | guardTimeExpiry x => exact ⟨_, rfl, (guardTimeExpiry_reporting x s).pending⟩
  | breakDetected x => exact ⟨_, rfl, (breakDetected_reporting x s).pending⟩
  | cycleTimerExpiry x => exact ⟨_, rfl, (cycleTimerExpiry_reporting x s).pending⟩
  | supervisionExpiry => exact ⟨_, rfl, (supervisionExpiry_reporting s).pending⟩
  | commandTake lanes data => exact ⟨_, rfl, ite_pending (cmdWrite_reporting lanes data s).pending rfl⟩
  | startBitArrival x => exact ⟨_, rfl, (startBitArrival_reporting x s).pending⟩
  | pinReturnsHigh x => exact ⟨_, rfl, (pinReturnsHigh_reporting x s).pending⟩

end Sys2Proof.Machine
end

section
/-! The start of an exchange (R49 to R51): what the Line Engine makes of accepted work, a request's record, and a slot's
record with the commit it takes first. -/

namespace Sys2Proof.Machine

/-! ### Accepted work (R49) -/

section
variable {s : State} {x : Line}

theorem acceptExchange_idle (e : Exchange) (idle : (s.engineAt x).exState = .idle) :
    acceptExchange x e s = s.modEngine x fun g => g.call e :=
  modEngine_congr x _ _ s (if_pos idle)

theorem acceptExchange_guarding (e : Exchange) (guarding : (s.engineAt x).exState = .guarding) :
    acceptExchange x e s = s.modEngine x fun g => { g with exchange := some e } :=
  modEngine_congr x _ _ s (if_neg (by simp [guarding]))

theorem acceptExchange_engineAt_ne {y : Line} (e : Exchange) (s : State) (h : y ≠ x) :
    (acceptExchange x e s).engineAt y = s.engineAt y := by
  rw [acceptExchange, engineAt_modEngine, if_neg h]

end

/-! ### Requests -/

theorem requestExchange_station {s : State} {d : Fin 16} {i : Fin 32}
    (target : (s.descriptorAt d).target = some (.station i)) :
    requestExchange s d =
      { kind := .request, station := some i, descriptor := some d, address := (s.stationAt i).address.getD 0,
        functionCode := (s.descriptorAt d).functionCode,
        image := callImage (s.requestCallAt d).length (s.requestCallAt d).bytes,
        answerMax := some (s.descriptorAt d).answerMax, busyRetry := true,
        allowed := attemptsAllowed .request (s.stationAt i), made := 0, outcome := none } := by
  simp only [requestExchange, target]

theorem requestExchange_broadcast {s : State} {d : Fin 16} {z : Line}
    (target : (s.descriptorAt d).target = some (.broadcast z)) :
    requestExchange s d =
      { kind := .broadcast, station := none, descriptor := some d, address := 63,
        functionCode := (s.descriptorAt d).functionCode,
        image := callImage (s.requestCallAt d).length (s.requestCallAt d).bytes, answerMax := none, busyRetry := false,
        allowed := 1, made := 0, outcome := none } := by
  simp only [requestExchange, target]

/-- Settles O35: the record by the target, then the acceptance by the exchange state. -/
theorem requestsStartTheirExchange : Obligations.RequestsStartTheirExchange := by
  intro s x y d other
  dsimp only
  intro e he
  have record : requestExchange s d = e := by
    obtain ⟨i, target, rfl⟩ | ⟨z, target, rfl⟩ := he
    · exact requestExchange_station target
    · exact requestExchange_broadcast target
  have unmade : e.made = 0 ∧ e.outcome = none := by
    obtain ⟨_, _, rfl⟩ | ⟨_, _, rfl⟩ := he <;> exact ⟨rfl, rfl⟩
  obtain ⟨made, outcome⟩ := unmade
  rw [startRequest, record]
  refine ⟨fun idle => ?_, fun guarding => ?_, acceptExchange_engineAt_ne e s other, rfl⟩
  · rw [acceptExchange_idle e idle, engineAt_modEngine_self, LineEngine.call, made, ← outcome]
  · rw [acceptExchange_guarding e guarding, engineAt_modEngine_self]

/-! ### The commit taken at a slot's start (R50, R93, R95) -/

@[simp] theorem CallPair.staged_swap (p : CallPair) : p.swap.staged = p.live := by
  cases p with
  | mk first second firstIsLive => cases firstIsLive <;> exact Eq.refl _

@[simp] theorem takeCommit_engineAt (i : Fin 32) (s : State) (x : Line) :
    (takeCommit i s).engineAt x = s.engineAt x := by
  unfold takeCommit
  split <;> rfl

theorem takeCommit_of_pending (i : Fin 32) {s : State} (pending : (s.stationAt i).commitPending = true) :
    takeCommit i s = post (commitTakenRecord s i 0x01) (swapCommit i s) := if_pos pending

theorem takeCommit_of_none (i : Fin 32) {s : State} (absent : (s.stationAt i).commitPending = false) :
    takeCommit i s = s := if_neg (by simp [absent])

/-- Behind the take no commit of the station is pending, and no other field of the Station Table has moved. -/
theorem takeCommit_stationAt (i j : Fin 32) (s : State) :
    (takeCommit i s).stationAt j = if j = i then { s.stationAt i with commitPending := false } else s.stationAt j := by
  cases h : (s.stationAt i).commitPending with
  | true => rw [takeCommit_of_pending i h, post_stationAt, swapCommit, stationAt_setStation, setCallPair_stationAt]
  | false =>
    rw [takeCommit_of_none i h]
    split
    · next same => rw [same, ← h]
    · rfl

theorem takeCommit_callPairAt (i j : Fin 32) (s : State) :
    (takeCommit i s).callPairAt j =
      if j = i ∧ (s.stationAt i).commitPending = true then (s.callPairAt i).swap else s.callPairAt j := by
  cases h : (s.stationAt i).commitPending with
  | true =>
    rw [takeCommit_of_pending i h, post_callPairAt, swapCommit, setStation_callPairAt, callPairAt_setCallPair]
    simp
  | false => rw [takeCommit_of_none i h, if_neg (by simp)]

theorem takeCommit_events (i : Fin 32) (s : State) :
    (takeCommit i s).events =
      if (s.stationAt i).commitPending = true then s.events.arrive (commitTakenRecord s i 0x01) else s.events := by
  unfold takeCommit
  split <;> rfl

/-- The live call data behind the take: the staged half where a commit was pending. -/
theorem takeCommit_live (i : Fin 32) (s : State) :
    ((takeCommit i s).callPairAt i).live =
      if (s.stationAt i).commitPending = true then (s.callPairAt i).staged else (s.callPairAt i).live := by
  rw [takeCommit_callPairAt]
  cases (s.stationAt i).commitPending <;> simp

theorem takeCommit_staged (i : Fin 32) (s : State) :
    ((takeCommit i s).callPairAt i).staged =
      if (s.stationAt i).commitPending = true then (s.callPairAt i).live else (s.callPairAt i).staged := by
  rw [takeCommit_callPairAt]
  cases (s.stationAt i).commitPending <;> simp

/-! ### Slots -/

theorem attemptsAllowed_slot {kind : ExchangeKind} (slot : kind = .cyclic ∨ kind = .probe) (r : Station) :
    attemptsAllowed kind r = if kind = .probe then 1 else r.retryLimit + 1 := by
  obtain rfl | rfl := slot <;> rfl

/-- Settles O36: the record read behind the take, then the acceptance by the exchange state. -/
theorem slotsStartTheirExchange : Obligations.SlotsStartTheirExchange := by
  intro s x i kind slot
  dsimp only
  have record : slotExchange (takeCommit i s) i kind =
      { kind := kind, station := some i, descriptor := none, address := (s.stationAt i).address.getD 0,
        functionCode := (s.stationAt i).functionCode,
        image := callImage ((takeCommit i s).callPairAt i).live.length ((takeCommit i s).callPairAt i).live.bytes,
        answerMax := some 32, busyRetry := false,
        allowed := if kind = .probe then 1 else (s.stationAt i).retryLimit + 1, made := 0, outcome := none } := by
    rw [slotExchange, attemptsAllowed_slot slot, takeCommit_stationAt, if_pos rfl]
  rw [takeCommit_live] at record
  have here := takeCommit_engineAt i s x
  rw [startSlot, record]
  refine ⟨fun idle => ?_, fun guarding => ?_, takeCommit_live i s, takeCommit_staged i s, ?_,
    fun j other => ⟨?_, ?_⟩, ?_⟩
  · rw [acceptExchange_idle _ (here.symm ▸ idle), engineAt_modEngine_self, here]
    rfl
  · rw [acceptExchange_guarding _ (here.symm ▸ guarding), engineAt_modEngine_self, here]
    rfl
  · exact (takeCommit_stationAt i i s).trans (if_pos rfl)
  · exact (takeCommit_stationAt i j s).trans (if_neg other)
  · exact (takeCommit_callPairAt i j s).trans (if_neg fun both => other both.1)
  · refine (takeCommit_events i s).trans ?_
    split <;> rfl

end Sys2Proof.Machine
end

section
/-! The spans of silence (R60, R83, R84), the end of a call (R53, R82, R85, R87) and the edges of the receive pin (R74,
R83, R85). -/

namespace Sys2Proof.Machine

/-! ### Silence (R60, R83, R84) -/

theorem LineEngine.receiving_eq_false {g : LineEngine} : g.receiving = false ↔ g.reception = none := by
  simp [receiving]

/-- A silence is timed from here where the pin is high and no character is being received. -/
theorem silenceSpan_eq (s : State) (x : Line) (t : Nat) :
    silenceSpan s x t =
      if s.pins.rx.get x = .high ∧ (s.engineAt x).reception = none then
        some (t * ((s.engineAt x).config.divisor + 1))
      else none := by
  simp only [silenceSpan, LineEngine.receiving_eq_false]
  rfl

/-- Between characters the pin alone decides. -/
theorem silenceSpan_quiet {s : State} {x : Line} (t : Nat) (quiet : (s.engineAt x).reception = none) :
    silenceSpan s x t =
      if s.pins.rx.get x = .high then some (t * ((s.engineAt x).config.divisor + 1)) else none := by
  simp only [silenceSpan_eq, quiet, and_true]

/-- A change of the line that leaves its configuration and its reception leaves its silence. -/
theorem silenceSpan_modEngine {s : State} {x : Line} {f : LineEngine → LineEngine} (t : Nat)
    (config : (f (s.engineAt x)).config = (s.engineAt x).config)
    (reception : (f (s.engineAt x)).reception = (s.engineAt x).reception) :
    silenceSpan (s.modEngine x f) x t = silenceSpan s x t := by
  simp only [silenceSpan_eq, engineAt_modEngine_self, config, reception, modEngine_pins]

theorem closeAttempt_eq (x : Line) (outcome : ExchangeResult) (s : State) :
    closeAttempt x outcome s =
      s.modEngine x fun g =>
        { g with exState := .guarding, exchange := g.exchange.map fun e => { e with outcome := some outcome },
                 span := silenceSpan s x g.config.guardTime } := by
  rw [closeAttempt, enterGuard, modEngine_modEngine]
  refine modEngine_congr x _ _ s ?_
  rw [silenceSpan_modEngine _ rfl rfl]

/-! ### The end of a call (R53, R82, R85, R87) -/

section
variable {s : State} {x : Line} {e : Exchange}

theorem callFrameSent_calling (flight : (s.engineAt x).exchange = some e) (calling : (s.engineAt x).exState = .calling)
    (kept : (s.engineAt x).abortPending = false) : callFrameSent x s = endCalling x e s := by
  simp [callFrameSent, flight, calling, kept]

/-- A call to a station goes to AWAITING (R53). -/
theorem endCalling_station (kind : e.kind = .cyclic ∨ e.kind = .probe ∨ e.kind = .request) :
    endCalling x e s =
      (s.modEngine x fun g => g.released (s.pins.rx.get x)).modEngine x fun g =>
        { g with exState := .awaiting, buffer := ReceiveBuffer.reset,
                 span := some (g.config.spanOf g.config.answerTimeout) } := by
  unfold endCalling
  obtain h | h | h := kind <;> rw [h]

/-- A broadcast or safe call is over (R53). -/
theorem endCalling_broadcast (kind : e.kind = .broadcast ∨ e.kind = .safeCall) :
    endCalling x e s = closeAttempt x .good (s.modEngine x fun g => g.released (s.pins.rx.get x)) := by
  unfold endCalling
  obtain h | h := kind <;> rw [h]

end

/-- Released on a low pin the receiver measures a break; on a high pin it measures none. -/
theorem LineEngine.released_eq (g : LineEngine) (rx : PinLevel) :
    g.released rx =
      { g with driverEnable := false, sending := none, reception := none,
               lowSpan := if rx = .high then none else some (22 * (g.config.divisor + 1)) } := by
  cases rx <;> rfl

/-- Settles O37: the released receiver, then AWAITING or GUARD by the kind of the exchange. -/
theorem callFrameSentGoesOn : Obligations.CallFrameSentGoesOn := by
  intro s x e
  dsimp only
  intro flight calling kept
  have sent := callFrameSent_calling flight calling kept
  refine ⟨fun station => congrArg Host.Outcome.next ?_, fun broadcast => congrArg Host.Outcome.next ?_⟩
  · rw [sent, endCalling_station station, modEngine_modEngine]
    refine modEngine_congr x _ _ s ?_
    rw [LineEngine.released_eq]
    rfl
  · rw [sent, endCalling_broadcast broadcast, closeAttempt_eq, modEngine_modEngine]
    refine modEngine_congr x _ _ s ?_
    rw [silenceSpan_quiet _ (by simp [LineEngine.released]), LineEngine.released_eq, flight]
    simp [LineEngine.released]

/-! ### The edges of the receive pin (R74, R83, R85) -/

theorem LineEngine.insideCharacter_iff {g : LineEngine} :
    g.insideCharacter = true ↔ g.reception ≠ none ∧ g.edge = none := by
  simp [insideCharacter, receiving, Option.isSome_iff_ne_none]

/-- Between characters a falling edge begins one. -/
theorem LineEngine.fallingEdge_between {g : LineEngine} (quiet : g.reception = none) :
    g.fallingEdge =
      { g with reception := some { elapsed := 0, lastEdge := 0 }, lowSpan := some (22 * (g.config.divisor + 1)),
               span := none, exState := if g.exState = .awaiting then .receiving else g.exState,
               edge := some { left := (g.config.divisor + 2) / 2, awaited := decide (g.exState = .awaiting),
                              span := g.span, overdue := false, later := [] } } := by
  simp only [fallingEdge, quiet]
  rfl

/-- Behind another edge it waits for its own sample, and inside a character nothing else begins. -/
theorem LineEngine.fallingEdge_receiving {g : LineEngine} {r : Reception} (receiving : g.reception = some r) :
    g.fallingEdge =
      { g with lowSpan := some (22 * (g.config.divisor + 1)), reception := some { r with lastEdge := r.elapsed },
               edge := g.edge.map fun e =>
                 { e with later := e.later ++
                     [{ left := (g.config.divisor + 2) / 2, overdue := decide (e.span = some 0) }] } } := by
  simp only [fallingEdge, receiving]
  rfl

section
variable {s : State} {x : Line}

theorem startBitArrival_on (falls : s.pins.rx.get x = .high ∨ (s.engineAt x).insideCharacter = true)
    (on : (s.engineAt x).receiverOn = true) :
    startBitArrival x s = (s.setRx x .low).modEngine x LineEngine.fallingEdge := by
  rw [startBitArrival, if_pos falls, if_pos on]

theorem startBitArrival_off (falls : s.pins.rx.get x = .high ∨ (s.engineAt x).insideCharacter = true)
    (off : (s.engineAt x).receiverOn = false) : startBitArrival x s = s.setRx x .low := by
  rw [startBitArrival, if_pos falls, if_neg (by simp [off])]

theorem startBitArrival_low (low : s.pins.rx.get x = .low) (outside : (s.engineAt x).insideCharacter ≠ true) :
    startBitArrival x s = s := by
  rw [startBitArrival, if_neg (by simp [low, outside])]

theorem pinReturnsHigh_high (high : s.pins.rx.get x = .high) (outside : (s.engineAt x).insideCharacter ≠ true) :
    pinReturnsHigh x s = s := by
  rw [pinReturnsHigh, if_neg (by simp [high, outside])]

/-- The pin's return ends the break measurement, and between characters begins the silences (R60, R83, R84, R85). -/
theorem pinReturnsHigh_rises (rises : s.pins.rx.get x = .low ∨ (s.engineAt x).insideCharacter = true) :
    pinReturnsHigh x s =
      (s.setRx x .high).modEngine x fun g =>
        { g with lowSpan := none, reception := g.reception.map Reception.edged,
                 span := if (s.engineAt x).receiverOn = true ∧ g.reception = none then
                     (if g.exState = .draining then some (g.config.spanOf g.config.gapLimit)
                      else if g.exState = .guarding then some (g.config.spanOf g.config.guardTime)
                      else g.span)
                   else g.span } := by
  rw [pinReturnsHigh, if_pos rises]
  dsimp only
  simp only [LineEngine.receiving_eq_false]
  have at_high : (s.setRx x .high).engineAt x = s.engineAt x := rfl
  split
  · next between =>
    cases state : (s.engineAt x).exState with
    | draining | guarding =>
      dsimp only
      rw [modEngine_modEngine]
      refine modEngine_congr x _ _ _ ?_
      simp [at_high, between, state]
    | idle | calling | awaiting | receiving =>
      refine modEngine_congr x _ _ _ ?_
      simp [at_high, between, state]
  · next not =>
    refine modEngine_congr x _ _ _ ?_
    rw [at_high, if_neg not]

end

/-- Settles O38: the falling edges by the receiver and the reception, and the pin's return. -/
theorem receivePinEdges : Obligations.ReceivePinEdges := by
  intro s x
  dsimp only
  have inside := LineEngine.insideCharacter_iff (g := s.engineAt x)
  have outside : ¬ ((s.engineAt x).reception ≠ none ∧ (s.engineAt x).edge = none) →
      (s.engineAt x).insideCharacter ≠ true := mt inside.1
  have at_low : (s.setRx x .low).engineAt x = s.engineAt x := rfl
  refine ⟨fun high on quiet => congrArg Host.Outcome.next ?_, fun r e high on receiving waits =>
      congrArg Host.Outcome.next ?_, fun r on receiving validated => congrArg Host.Outcome.next ?_,
    fun high off => congrArg Host.Outcome.next (startBitArrival_off (.inl high) off),
    fun low away => congrArg Host.Outcome.next (startBitArrival_low low (outside away)),
    fun high away => congrArg Host.Outcome.next (pinReturnsHigh_high high (outside away)),
    fun rises => congrArg Host.Outcome.next (pinReturnsHigh_rises (rises.imp_right inside.2))⟩
  · rw [startBitArrival_on (.inl high) on]
    refine modEngine_congr x _ _ _ ?_
    rw [at_low, LineEngine.fallingEdge_between quiet]
  · rw [startBitArrival_on (.inl high) on]
    refine modEngine_congr x _ _ _ ?_
    rw [at_low, LineEngine.fallingEdge_receiving receiving, waits]
    rfl
  · rw [startBitArrival_on (.inr (inside.2 ⟨by simp [receiving], validated⟩)) on]
    refine modEngine_congr x _ _ _ ?_
    rw [at_low, LineEngine.fallingEdge_receiving receiving, validated, Option.map_none, ← validated]

end Sys2Proof.Machine
end

section
/-! The characters of an answer, strays and faults (R56 to R62, R75, R76, R138, R139). -/

namespace Sys2Proof.Machine

/-! ### What a character's end keeps (R75) -/

section
variable (x : Line) (data : Byte) (mark stop : Bool) (s : State)

@[simp] theorem endCharacter_reception : ((endCharacter x data mark stop s).engineAt x).reception = none := by
  rw [(endCharacter_frame x data mark stop s).2]

@[simp] theorem endCharacter_config :
    ((endCharacter x data mark stop s).engineAt x).config = (s.engineAt x).config := by
  rw [(endCharacter_frame x data mark stop s).2]

@[simp] theorem endCharacter_exchange :
    ((endCharacter x data mark stop s).engineAt x).exchange = (s.engineAt x).exchange := by
  rw [(endCharacter_frame x data mark stop s).2]

@[simp] theorem endCharacter_buffer :
    ((endCharacter x data mark stop s).engineAt x).buffer = (s.engineAt x).buffer := by
  rw [(endCharacter_frame x data mark stop s).2]

@[simp] theorem endCharacter_stray :
    ((endCharacter x data mark stop s).engineAt x).stray = (s.engineAt x).stray := by
  rw [(endCharacter_frame x data mark stop s).2]

/-- Behind a character's end no character is being received, so the pin alone decides whether a silence is timed. -/
theorem endCharacter_silence (t : Nat) :
    silenceSpan (endCharacter x data mark stop s) x t =
      if (endCharacter x data mark stop s).pins.rx.get x = .high then some (t * ((s.engineAt x).config.divisor + 1))
      else none := by
  rw [silenceSpan_quiet t (endCharacter_reception x data mark stop s), endCharacter_config]

end

/-! ### The bits of a character (R72, R75, R85) -/

/-- A character is sampled at 11 bits: start bit, data bits, mark bit, stop bit. -/
theorem sampledLevels_eq (data : Byte) (mark stop : Bool) :
    sampledLevels data mark stop =
      (List.range 11).map fun k =>
        if k = 0 then false else if k < 9 then data.getLsbD (k - 1) else if k = 9 then mark else stop := rfl

theorem stopLevel_ne_iff (level : Bool) (pin : PinLevel) :
    (if level then PinLevel.high else PinLevel.low) ≠ pin ↔ level ≠ decide (pin = .high) := by
  cases level <;> cases pin <;> simp

/-- The edges tell where every bit sampled at another level than the pin's was sampled before the last of them. -/
theorem edgesTell_bits (g : LineEngine) (pin : PinLevel) (data : Byte) (mark stop : Bool) :
    g.edgesTell pin data mark stop = true ↔
      ∃ r, g.reception = some r ∧ ∀ k < 11,
        stopLevel (if k = 0 then false else if k < 9 then data.getLsbD (k - 1) else if k = 9 then mark else stop)
            ≠ pin →
          (2 * k + 1) * (g.config.divisor + 1) ≤ 2 * r.lastEdge := by
  rw [edgesTell_iff, sampledLevels_eq]
  refine exists_congr fun r => and_congr_right fun _ => ?_
  simp only [List.forall_mem_zipIdx', List.length_map, List.length_range, List.getElem_map, List.getElem_range]
  refine forall₂_congr fun k _ => ?_
  rw [stopLevel, stopLevel_ne_iff]
  rfl

/-! ### Answer characters (R56 to R58) -/

theorem enterDraining_eq {x : Line} {s : State} {e : Exchange} (outcome : ExchangeResult)
    (flight : (s.engineAt x).exchange = some e) :
    enterDraining x outcome s =
      s.modEngine x fun g =>
        { g with exState := .draining, exchange := some { e with outcome := some outcome },
                 span := silenceSpan s x g.config.gapLimit } := by
  refine modEngine_congr x _ _ s ?_
  rw [flight]
  rfl

section
variable {s : State} {x : Line} {e : Exchange} {data : Byte}

/-- A character with mark bit 0 in RECEIVING is one of the answer (R76). -/
theorem characterReceived_answer (on : (s.engineAt x).receiverOn = true) (receiving : (s.engineAt x).receiving = true)
    (state : (s.engineAt x).exState = .receiving) (flight : (s.engineAt x).exchange = some e) (stop : Bool) :
    characterReceived x data false stop s = answerCharacter x e data stop (endCharacter x data false stop s) := by
  simp [characterReceived, on, receiving, state, flight]

variable (on : (s.engineAt x).receiverOn = true) (receiving : (s.engineAt x).receiving = true)
  (state : (s.engineAt x).exState = .receiving) (flight : (s.engineAt x).exchange = some e)
include on receiving state flight

/-- A low stop bit is a FRAMING_ERROR (R57). -/
theorem characterReceived_framingError :
    characterReceived x data false false s =
      (endCharacter x data false false s).modEngine x fun g =>
        { g with exState := .draining, exchange := some { e with outcome := some .framingError },
                 span := silenceSpan (endCharacter x data false false s) x g.config.gapLimit } := by
  rw [characterReceived_answer on receiving state flight]
  exact enterDraining_eq _ ((endCharacter_exchange ..).trans flight)

/-- A character that fails its position's check (R56). -/
theorem characterReceived_failed {failure : ExchangeResult}
    (fails : positionFailure (s.engineAt x).buffer e data = some failure) :
    characterReceived x data false true s =
      (endCharacter x data false true s).modEngine x fun g =>
        { g with exState := .draining, exchange := some { e with outcome := some failure },
                 span := silenceSpan (endCharacter x data false true s) x g.config.gapLimit } := by
  rw [characterReceived_answer on receiving state flight, answerCharacter]
  simp only [endCharacter_buffer, fails, Bool.not_true, Bool.false_eq_true, if_false]
  exact enterDraining_eq failure ((endCharacter_exchange ..).trans flight)

/-- A character taken before the last position starts the gap limit (R56). -/
theorem characterReceived_taken (passes : positionFailure (s.engineAt x).buffer e data = none)
    (more : isLastPosition (s.engineAt x).buffer = false) :
    characterReceived x data false true s =
      (endCharacter x data false true s).modEngine x fun g =>
        { g with buffer := (s.engineAt x).buffer.take data, span := some (g.config.spanOf g.config.gapLimit) } := by
  rw [characterReceived_answer on receiving state flight, answerCharacter]
  simp only [endCharacter_buffer, passes, more, Bool.not_true, Bool.false_eq_true, if_false]

/-- The character at the last position completes the frame (R58). -/
theorem characterReceived_last (passes : positionFailure (s.engineAt x).buffer e data = none)
    (last : isLastPosition (s.engineAt x).buffer = true) :
    characterReceived x data false true s =
      (endCharacter x data false true s).modEngine x fun g =>
        { g with exState := .guarding, buffer := (s.engineAt x).buffer.take data,
                 exchange := some { e with outcome := some (frameVerdict ((s.engineAt x).buffer.take data)) },
                 span := silenceSpan (endCharacter x data false true s) x g.config.guardTime } := by
  rw [characterReceived_answer on receiving state flight, answerCharacter]
  simp only [endCharacter_buffer, passes, last, Bool.not_true, Bool.false_eq_true, if_false, if_true]
  rw [closeAttempt_eq, modEngine_modEngine]
  refine modEngine_congr x _ _ _ ?_
  rw [silenceSpan_modEngine _ rfl rfl, endCharacter_exchange, flight]
  rfl

end

/-! ### The positions of an answer (R55, R56, R78) -/

section
variable {b : ReceiveBuffer} {e : Exchange} {data : Byte}

/-- The first and the third position alone are checked. -/
theorem positionFailure_none (first : b.position = 0 → data = e.address)
    (third : b.position = 2 → data.toNat ≤ e.answerMax.getD 32) : positionFailure b e data = none := by
  unfold positionFailure
  rw [if_neg fun h => h.2 (first h.1), if_neg fun h => Nat.not_lt.2 (third h.1) h.2]

theorem positionFailure_wrongStation (first : b.position = 0) (wrong : data ≠ e.address) :
    positionFailure b e data = some .wrongStation := if_pos ⟨first, wrong⟩

theorem positionFailure_overlength (third : b.position = 2) (long : e.answerMax.getD 32 < data.toNat) :
    positionFailure b e data = some .overlength := by
  unfold positionFailure
  rw [if_neg (by simp [third]), if_pos ⟨third, long⟩]

theorem isLastPosition_iff : isLastPosition b = true ↔ b.position = b.declared.toNat + 4 := by
  simp only [isLastPosition, Bool.and_eq_true, decide_eq_true_eq]
  omega

theorem isLastPosition_false (h : b.position < b.declared.toNat + 4) : isLastPosition b = false :=
  Bool.eq_false_iff.2 fun last => absurd (isLastPosition_iff.1 last) (Nat.ne_of_lt h)

theorem ReceiveBuffer.take_echo (h : b.position = 0) : b.take data = { b with position := 1, echo := data } := by
  simp [take, h]

theorem ReceiveBuffer.take_status (h : b.position = 1) : b.take data = { b with position := 2, status := data } := by
  simp [take, h]

theorem ReceiveBuffer.take_length (h : b.position = 2) : b.take data = { b with position := 3, declared := data } := by
  simp [take, h]

/-- Behind the head of the frame: the payload, then C1, then C2. -/
theorem ReceiveBuffer.take_body (h : 3 ≤ b.position) :
    b.take data =
      if b.position < 3 + b.declared.toNat then
        { b with position := b.position + 1, stored := b.stored + 1, payload := setByte b.payload b.stored data }
      else if b.position = 3 + b.declared.toNat then
        { b with position := b.position + 1, check := data ++ b.check.extractLsb' 0 8 }
      else { b with position := b.position + 1, check := b.check.extractLsb' 8 8 ++ data } := by
  unfold take
  dsimp only
  rw [if_neg (by omega), if_neg (by omega), if_neg (by omega)]
  rfl

end

/-- Settles O39: each position's check, then what the character leaves in the buffer. -/
theorem answerCharactersByPosition : Obligations.AnswerCharactersByPosition := by
  intro s x e data
  dsimp only
  intro on receiving state flight
  have taken {next : ReceiveBuffer} (first : (s.engineAt x).buffer.position = 0 → data = e.address)
      (third : (s.engineAt x).buffer.position = 2 → data.toNat ≤ e.answerMax.getD 32)
      (more : (s.engineAt x).buffer.position < (s.engineAt x).buffer.declared.toNat + 4)
      (leaves : (s.engineAt x).buffer.take data = next) :
      exec (.characterReceived x data false true) s =
        .next ((endCharacter x data false true s).modEngine x fun g =>
          { g with buffer := next,
                   span := some ((s.engineAt x).config.gapLimit * ((s.engineAt x).config.divisor + 1)) }) := by
    refine congrArg Host.Outcome.next ((characterReceived_taken on receiving state flight
      (positionFailure_none first third) (isLastPosition_false more)).trans (modEngine_congr x _ _ _ ?_))
    rw [leaves, endCharacter_config]
    rfl
  have drained {failure : ExchangeResult} (fails : positionFailure (s.engineAt x).buffer e data = some failure) :
      exec (.characterReceived x data false true) s =
        .next ((endCharacter x data false true s).modEngine x fun g =>
          { g with exState := .draining, exchange := some { e with outcome := some failure },
                   span := if (endCharacter x data false true s).pins.rx.get x = .high then
                       some ((s.engineAt x).config.gapLimit * ((s.engineAt x).config.divisor + 1))
                     else none }) := by
    refine congrArg Host.Outcome.next ((characterReceived_failed on receiving state flight fails).trans
      (modEngine_congr x _ _ _ ?_))
    rw [endCharacter_silence, endCharacter_config]
  refine ⟨fun first same => ?_, fun first wrong => drained (positionFailure_wrongStation first wrong), fun second => ?_,
    fun most max third fits => ?_, fun most max third long => ?_, fun low high room => ?_, fun c1 => ?_⟩
  · exact taken (fun _ => same) (by omega) (by omega) (ReceiveBuffer.take_echo first)
  · exact taken (by omega) (by omega) (by omega) (ReceiveBuffer.take_status second)
  · exact taken (by omega) (fun _ => by simpa [max] using fits) (by omega) (ReceiveBuffer.take_length third)
  · exact drained (positionFailure_overlength third (by simpa [max] using long))
  · refine taken (by omega) (by omega) (by omega) ?_
    rw [ReceiveBuffer.take_body low, if_pos high, setByte, dif_pos room]
  · refine taken (by omega) (by omega) (by omega) ?_
    rw [ReceiveBuffer.take_body (by omega), if_neg (by omega), if_pos c1]

/-- Settles O40: the buffer with C2, and the verdict on it. -/
theorem lastCharacterDecidesTheOutcome : Obligations.LastCharacterDecidesTheOutcome := by
  intro s x e c2
  dsimp only
  intro on receiving state flight last
  have complete : (s.engineAt x).buffer.take c2 =
      { (s.engineAt x).buffer with position := (s.engineAt x).buffer.position + 1,
                                   check := (s.engineAt x).buffer.check.extractLsb' 8 8 ++ c2 } := by
    rw [ReceiveBuffer.take_body (by omega), if_neg (by omega), if_neg (by omega)]
  refine congrArg Host.Outcome.next ((characterReceived_last on receiving state flight
    (positionFailure_none (by omega) (by omega)) (isLastPosition_iff.2 last)).trans (modEngine_congr x _ _ _ ?_))
  rw [endCharacter_silence, endCharacter_config, complete]
  rfl

/-! ### Strays, characters in DRAINING, and faults (R60, R62, R76, R138, R139) -/

section
variable {s : State} {x : Line} {data : Byte}

theorem characterReceived_ignored (off : (s.engineAt x).receiverOn = false ∨ (s.engineAt x).receiving = false)
    (mark stop : Bool) : characterReceived x data mark stop s = s := by
  refine if_neg fun h => ?_
  obtain h' | h' := off <;> simp [h'] at h

variable (on : (s.engineAt x).receiverOn = true) (receiving : (s.engineAt x).receiving = true)
include on receiving

theorem characterReceived_conflict (stop : Bool) :
    characterReceived x data true stop s = lineFault x .conflict (endCharacter x data true stop s) := by
  simp [characterReceived, on, receiving]

theorem characterReceived_stray (state : (s.engineAt x).exState = .idle ∨ (s.engineAt x).exState = .guarding)
    (stop : Bool) :
    characterReceived x data false stop s = strayCharacter x (endCharacter x data false stop s) := by
  obtain state | state := state <;> simp [characterReceived, on, receiving, state]

theorem characterReceived_draining (state : (s.engineAt x).exState = .draining) (stop : Bool) :
    characterReceived x data false stop s =
      (endCharacter x data false stop s).modEngine x fun g =>
        { g with span := silenceSpan (endCharacter x data false stop s) x g.config.gapLimit } := by
  simp [characterReceived, on, receiving, state]

end

theorem strayCharacter_eq (x : Line) (s : State) :
    strayCharacter x s =
      s.modEngine x fun g =>
        { g with exState := .guarding, stray := if g.stray < 255 then g.stray + 1 else g.stray,
                 span := silenceSpan s x g.config.guardTime } := by
  rw [strayCharacter, enterGuard, modEngine_modEngine]
  refine modEngine_congr x _ _ s ?_
  rw [silenceSpan_modEngine _ rfl rfl]
  rfl

/-- Settles O41: the end of a character by its bits, then the character by its mark bit and the exchange state. -/
theorem straysAndFaults : Obligations.StraysAndFaults := by
  intro s x data
  dsimp only
  refine ⟨fun mark stop => ⟨fun tell => ?_, fun untold => ?_⟩,
    fun off mark stop => congrArg Host.Outcome.next (characterReceived_ignored off mark stop),
    fun on receiving => ⟨fun e state flight => congrArg Host.Outcome.next ?_,
      fun state stop => congrArg Host.Outcome.next ?_, fun state stop => congrArg Host.Outcome.next ?_,
      fun stop => congrArg Host.Outcome.next (characterReceived_conflict on receiving stop)⟩,
    fun on low => congrArg Host.Outcome.next (if_pos ⟨on, low⟩),
    fun outcome target => ⟨fun e flight => ?_, fun none => ?_⟩⟩
  · exact if_pos ((edgesTell_bits _ _ data mark stop).2 tell)
  · exact if_neg (mt (edgesTell_bits _ _ data mark stop).1 untold)
  · refine (characterReceived_framingError on receiving state flight).trans (modEngine_congr x _ _ _ ?_)
    rw [endCharacter_silence, endCharacter_config]
  · rw [characterReceived_stray on receiving state, strayCharacter_eq]
    refine modEngine_congr x _ _ _ ?_
    rw [endCharacter_silence, endCharacter_config, endCharacter_stray]
  · refine (characterReceived_draining on receiving state stop).trans (modEngine_congr x _ _ _ ?_)
    rw [endCharacter_silence, endCharacter_config]
  · simp only [endInto, flight]
  · simp only [endInto, none]

end Sys2Proof.Machine
end

section
/-! The expiries of a line's spans (R52, R54, R59, R60, R74, R82, R84): what they do with no edge waiting, and how they
are held behind a falling edge. -/

namespace Sys2Proof.Machine

section
variable {s : State} {x : Line} {state : ExchangeState}

/-- The span of this state runs and no edge waits: the expiry takes effect. -/
theorem spanReached_runs {effect : State → State} {left : Nat} (free : (s.engineAt x).edge = none)
    (span : (s.engineAt x).span = some left) (here : (s.engineAt x).exState = state) :
    spanReached x state effect s = effect s := by
  rw [spanReached_free x state effect s free, if_pos (by simp [LineEngine.timing, here, span])]

variable {e : FallingEdge} {left : Nat}

/-- Behind a falling edge that stopped the span the expiry is held (R74). -/
theorem spanReached_held (effect : State → State) (edge : (s.engineAt x).edge = some e) (span : e.span = some left)
    (before : (s.engineAt x).stateBefore e = state) (due : e.overdue = false) :
    spanReached x state effect s = s.modEngine x fun g => { g with edge := some { e with span := some 0 } } := by
  simp [spanReached, edge, before, span, due]

/-- Held behind an edge since rejected it takes effect before the edges that have fallen since (R74). -/
theorem spanReached_overdue (effect : State → State) (edge : (s.engineAt x).edge = some e) (span : e.span = some left)
    (before : (s.engineAt x).stateBefore e = state) (overdue : e.overdue = true) :
    spanReached x state effect s = aheadOfEdges x e effect s := by
  simp [spanReached, edge, before, span, overdue]

/-- The line as if its edges had not occurred: the span runs in the state that the first of them found. -/
theorem rejected_eq (before : (s.engineAt x).stateBefore e = state) :
    ((s.setRx x .high).modEngine x fun g => g.rejected e) =
      (s.setRx x .high).modEngine x fun g =>
        { g with edge := none, reception := none, exState := state, span := e.span } := by
  refine modEngine_congr x _ _ _ ?_
  rw [← before]
  rfl

/-- There the expiry takes effect. -/
theorem spanReached_rejected (effect : State → State) (span : e.span = some left)
    (before : (s.engineAt x).stateBefore e = state) :
    spanReached x state effect ((s.setRx x .high).modEngine x fun g => g.rejected e) =
      effect ((s.setRx x .high).modEngine x fun g => g.rejected e) :=
  spanReached_runs (left := left) (by simp [LineEngine.rejected]) (by simp [LineEngine.rejected, span])
    (by simpa [LineEngine.rejected] using before)

/-- Where an expiry has its effect on the line less its edges, the held one has that effect, and the edges stand behind
it where the receiver is still on (R52, R74). -/
theorem aheadOfEdges_eq {effect : State → State} {t : State} {r : Reception}
    (receiving : (s.engineAt x).reception = some r)
    (landed : effect ((s.setRx x .high).modEngine x fun g => g.rejected e) = t) :
    aheadOfEdges x e effect s =
      if ((t.setRx x (s.pins.rx.get x)).engineAt x).receiverOn = true then
        (t.setRx x (s.pins.rx.get x)).modEngine x fun g =>
          g.begun r e.left (e.later.map fun l => { l with overdue := false })
      else t.setRx x (s.pins.rx.get x) := by
  simp only [aheadOfEdges, receiving, landed]

end

/-- Each expiry of a span is that span reached in its state (R54, R59, R60, R61). -/
theorem exec_spanRow {x : Line} {state : ExchangeState} {expiry : Instr} (row : (state, expiry) ∈ spanRows x) :
    ∃ effect : State → State, ∀ s, exec expiry s = .next (spanReached x state effect s) := by
  simp only [spanRows, List.mem_cons, Prod.mk.injEq, List.not_mem_nil, or_false] at row
  obtain ⟨rfl, rfl⟩ | ⟨rfl, rfl⟩ | ⟨rfl, rfl⟩ | ⟨rfl, rfl⟩ := row <;> exact ⟨_, fun _ => rfl⟩

/-- An attempt closed on the exchange in flight: the outcome recorded, GUARD entered with its silence. -/
theorem closeAttempt_flight {s : State} {x : Line} {e : Exchange} (outcome : ExchangeResult)
    (flight : (s.engineAt x).exchange = some e) :
    closeAttempt x outcome s =
      s.modEngine x fun g =>
        { g with exState := .guarding, exchange := some { e with outcome := some outcome },
                 span := if s.pins.rx.get x = .high ∧ g.reception = none then
                     some (g.config.guardTime * (g.config.divisor + 1))
                   else none } := by
  rw [closeAttempt_eq]
  refine modEngine_congr x _ _ s ?_
  rw [silenceSpan_eq, flight]
  rfl

/-- Settles O42: the three expiries with no edge waiting, then every expiry behind an edge. -/
theorem expiriesEnterGuard : Obligations.ExpiriesEnterGuard := by
  intro s x
  dsimp only
  refine ⟨fun e left flight span free => ⟨fun here => ?_, fun here => ?_, fun here => ?_⟩,
    fun edge left waits span state expiry row found => ?_⟩
  · exact congrArg Host.Outcome.next ((spanReached_runs free span here).trans (closeAttempt_flight _ flight))
  · exact congrArg Host.Outcome.next ((spanReached_runs free span here).trans (closeAttempt_flight _ flight))
  · refine congrArg Host.Outcome.next ((spanReached_runs free span here).trans ?_)
    refine modEngine_congr x _ _ s ?_
    rw [silenceSpan_eq, ← flight]
  · obtain ⟨effect, acts⟩ := exec_spanRow row
    have before : (s.engineAt x).stateBefore edge = state := found
    refine ⟨fun due => ?_, fun overdue r t receiving lands => ?_⟩
    · rw [acts, spanReached_held effect waits span before due]
    · rw [acts, ← rejected_eq before, spanReached_rejected effect span before, Host.Outcome.next.injEq] at lands
      rw [acts, spanReached_overdue effect waits span before overdue, aheadOfEdges_eq receiving lands]
      exact ⟨fun off => congrArg Host.Outcome.next (if_neg (Bool.eq_false_iff.1 off)),
        fun on => congrArg Host.Outcome.next (if_pos on)⟩

end Sys2Proof.Machine
end

section
/-! The end of an exchange (R68 to R71, R104, R117 to R119): the completed descriptor and the hand-over. -/

namespace Sys2Proof.Machine

/-! ### The completed descriptor (R104, R117 to R119) -/

section
variable (d j : Fin 16) (result : ExchangeResult) (attempts : Nat) (answer : RequestAnswer) (s : State)

theorem finishDescriptor_descriptorAt :
    (finishDescriptor d result attempts answer s).descriptorAt j =
      if j = d then
        { s.descriptorAt d with
          state := .done, result := some result, attemptsUsed := attempts,
          stamp := some (s.sweepAt (s.descriptorAt d).line).count }
      else s.descriptorAt j := by
  rw [finishDescriptor, post_descriptorAt, setRequestAnswer_descriptorAt, descriptorAt_setDescriptor]

theorem finishDescriptor_requestAnswerAt :
    (finishDescriptor d result attempts answer s).requestAnswerAt j =
      if j = d then { answer with stamp := (s.sweepAt (s.descriptorAt d).line).count } else s.requestAnswerAt j := by
  rw [finishDescriptor, post_requestAnswerAt, requestAnswerAt_setRequestAnswer, setDescriptor_requestAnswerAt]

theorem finishDescriptor_fifo (x : Line) (u : Urgency) :
    (finishDescriptor d result attempts answer s).fifo x u = s.fifo x u := by
  rw [finishDescriptor, post_fifo, setRequestAnswer_fifo, setDescriptor_fifo]

end

theorem requestAnswerAfter_none {kind : ExchangeKind} {result : ExchangeResult} (old : RequestAnswer)
    (b : ReceiveBuffer) (h : kind ≠ .request ∨ result ≠ .good ∧ result ≠ .busy) :
    requestAnswerAfter old kind result b = { old with valid := false, length := 0, status := 0 } := by
  unfold requestAnswerAfter
  split
  · simp at h
  · simp at h
  · rfl

theorem overwriteBytes_get (old source : Vector Byte 32) (n : Nat) (k : Fin 32) :
    (overwriteBytes old source n)[k] = if k.val < n then source[k] else old[k] := by
  simp [overwriteBytes]

/-- Settles O49: the descriptor and its answer, then the record and the frame. -/
theorem completedDescriptorsAreDone : Obligations.CompletedDescriptorsAreDone := by
  intro s d kind outcome attempts b
  dsimp only
  have answered (result : ExchangeResult) (answer : RequestAnswer) :=
    (finishDescriptor_requestAnswerAt d d result attempts answer s).trans (if_pos rfl)
  unfold completeActive
  dsimp only
  generalize (if (s.descriptorAt d).cancelRequested then ExchangeResult.cancelled else outcome) = result
  rw [answered]
  refine ⟨(finishDescriptor_descriptorAt ..).trans (if_pos rfl), fun request good => ?_, fun request busy => ?_,
    fun none => ?_, rfl, fun j other => ⟨(finishDescriptor_descriptorAt ..).trans (if_neg other),
      (finishDescriptor_requestAnswerAt ..).trans (if_neg other)⟩, finishDescriptor_fifo d _ _ _ s, rfl, rfl, rfl,
    fun code => rfl⟩
  · rw [request, good]
    exact ⟨rfl, overwriteBytes_get _ _ _⟩
  · rw [request, busy]
    rfl
  · rw [requestAnswerAfter_none _ b none]

/-! ### What a hand-over leaves (R68 to R71) -/

/-- `t` comes from `s` by reports and answers handed on: the lines, the Sweep Controllers and the safe-call buffers
stay. -/
structure HandedOn (s t : State) : Prop where
  engine : t.engine = s.engine
  sweep : t.sweep = s.sweep
  safeCalls : t.store.safeCalls = s.store.safeCalls

theorem HandedOn.rfl {s : State} : HandedOn s s := ⟨Eq.refl _, Eq.refl _, Eq.refl _⟩

theorem HandedOn.trans {s t u : State} (h : HandedOn s t) (h' : HandedOn t u) : HandedOn s u :=
  ⟨h'.engine.trans h.engine, h'.sweep.trans h.sweep, h'.safeCalls.trans h.safeCalls⟩

theorem HandedOn.engineAt {s t : State} (h : HandedOn s t) (x : Line) : t.engineAt x = s.engineAt x := by
  rw [State.engineAt, h.engine, State.engineAt]

theorem postAll_handedOn : ∀ (rs : List EventRecord) (s : State), HandedOn s (postAll rs s)
  | [], _ => .rfl
  | r :: rest, s => HandedOn.trans (t := post r s) ⟨Eq.refl _, Eq.refl _, Eq.refl _⟩ (postAll_handedOn rest _)

theorem postAll_pool : ∀ (rs : List EventRecord) (s : State), (postAll rs s).pool = s.pool
  | [], _ => Eq.refl _
  | r :: rest, s => postAll_pool rest (post r s)

theorem stationReport_handedOn (i : Fin 32) (o : ExchangeResult) (status : Byte) (s : State) :
    HandedOn s (stationReport i o status s) :=
  HandedOn.trans (t := s.setStation i _) ⟨Eq.refl _, Eq.refl _, Eq.refl _⟩ (postAll_handedOn _ _)

theorem stationReport_pool (i : Fin 32) (o : ExchangeResult) (status : Byte) (s : State) :
    (stationReport i o status s).pool = s.pool := postAll_pool _ _

/-- A stored answer is published, held, or overtakes a held one (R98, R99): of its station's record the answer's fields
alone move. -/
theorem storeAnswer_cases (i : Fin 32) (b : ReceiveBuffer) (stamp : Word) (s : State) :
    ∃ answers sequence overtaken pending, storeAnswer i b stamp s =
      ({ s with store := { s.store with answers := answers } } : State).setStation i
        { s.stationAt i with answerSequence := sequence, overtakenCount := overtaken, publishPending := pending } := by
  unfold storeAnswer
  dsimp only
  split
  · split <;> exact ⟨_, _, _, _, rfl⟩
  · exact ⟨_, (s.stationAt i).answerSequence + 1, (s.stationAt i).overtakenCount, false, rfl⟩

theorem storeAnswer_handedOn (i : Fin 32) (b : ReceiveBuffer) (stamp : Word) (s : State) :
    HandedOn s (storeAnswer i b stamp s) := by
  obtain ⟨_, _, _, _, h⟩ := storeAnswer_cases i b stamp s
  rw [h]
  exact ⟨rfl, rfl, rfl⟩

theorem storeAnswer_pool (i : Fin 32) (b : ReceiveBuffer) (stamp : Word) (s : State) :
    (storeAnswer i b stamp s).pool = s.pool := by
  obtain ⟨_, _, _, _, h⟩ := storeAnswer_cases i b stamp s
  rw [h]
  rfl

theorem storeAnswer_stationAt_ne {i j : Fin 32} (b : ReceiveBuffer) (stamp : Word) (s : State) (h : j ≠ i) :
    (storeAnswer i b stamp s).stationAt j = s.stationAt j := by
  obtain ⟨_, _, _, _, cases⟩ := storeAnswer_cases i b stamp s
  rw [cases, stationAt_setStation, if_neg h]
  rfl

/-- A stored answer leaves what the report has said of its station. -/
theorem storeAnswer_stationAt (i j : Fin 32) (b : ReceiveBuffer) (stamp : Word) (s : State) :
    ((storeAnswer i b stamp s).stationAt j).health = (s.stationAt j).health
      ∧ ((storeAnswer i b stamp s).stationAt j).failureCount = (s.stationAt j).failureCount
      ∧ ((storeAnswer i b stamp s).stationAt j).lastOutcome = (s.stationAt j).lastOutcome := by
  by_cases same : j = i
  · obtain ⟨_, _, _, _, cases⟩ := storeAnswer_cases i b stamp s
    rw [same, cases, stationAt_setStation_self]
    exact ⟨rfl, rfl, rfl⟩
  · rw [storeAnswer_stationAt_ne b stamp s same]
    exact ⟨rfl, rfl, rfl⟩

section
variable {outcome : ExchangeResult} {e : Exchange} {b : ReceiveBuffer} {stamp : Word} {s : State}

theorem handReport_station {i : Fin 32} (status : Byte) (station : e.station = some i) :
    handReport outcome e status s = stationReport i outcome status s := by
  simp only [handReport, station]

theorem handReport_none (status : Byte) (station : e.station = none) : handReport outcome e status s = s := by
  simp only [handReport, station]

/-- Step 2 stores an answer at the exchange's station, completes its descriptor, or does nothing (R69, R70). -/
theorem handAnswer_cases (outcome : ExchangeResult) (e : Exchange) (b : ReceiveBuffer) (stamp : Word) (s : State) :
    (∃ i, e.station = some i ∧ handAnswer outcome e b stamp s = storeAnswer i b stamp s)
      ∨ (∃ d kind, e.descriptor = some d
          ∧ handAnswer outcome e b stamp s = completeActive d kind outcome e.made b s)
      ∨ handAnswer outcome e b stamp s = s := by
  unfold handAnswer
  split
  · next station =>
    split
    · exact .inl ⟨_, station, rfl⟩
    · exact .inr (.inr rfl)
  · next station =>
    split
    · exact .inl ⟨_, station, rfl⟩
    · exact .inr (.inr rfl)
  · next descriptor => exact .inr (.inl ⟨_, _, descriptor, rfl⟩)
  · next descriptor => exact .inr (.inl ⟨_, _, descriptor, rfl⟩)
  · exact .inr (.inr rfl)

theorem handAnswer_slot {i : Fin 32} (slot : e.kind = .cyclic ∨ e.kind = .probe) (station : e.station = some i) :
    handAnswer outcome e b stamp s = if outcome = .good then storeAnswer i b stamp s else s := by
  obtain kind | kind := slot <;> simp only [handAnswer, kind, station]

theorem handAnswer_request {d : Fin 16} (kind : e.kind = .request) (descriptor : e.descriptor = some d) :
    handAnswer outcome e b stamp s = completeActive d .request outcome e.made b s := by
  simp only [handAnswer, kind, descriptor]

theorem handAnswer_broadcast {d : Fin 16} (kind : e.kind = .broadcast) (descriptor : e.descriptor = some d) :
    handAnswer outcome e b stamp s = completeActive d .broadcast outcome e.made b s := by
  simp only [handAnswer, kind, descriptor]

theorem handAnswer_safeCall (kind : e.kind = .safeCall) : handAnswer outcome e b stamp s = s := by
  simp only [handAnswer, kind]

end

section
variable (outcome : ExchangeResult) (e : Exchange) (b : ReceiveBuffer) (stamp : Word) (s : State)

theorem handReport_handedOn (status : Byte) : HandedOn s (handReport outcome e status s) := by
  cases station : e.station with
  | none => rw [handReport_none status station]; exact .rfl
  | some i => rw [handReport_station status station]; exact stationReport_handedOn i outcome status s

theorem handReport_pool (status : Byte) : (handReport outcome e status s).pool = s.pool := by
  cases station : e.station with
  | none => rw [handReport_none status station]
  | some i => rw [handReport_station status station, stationReport_pool]

theorem handAnswer_handedOn : HandedOn s (handAnswer outcome e b stamp s) := by
  obtain ⟨i, _, h⟩ | ⟨d, kind, _, h⟩ | h := handAnswer_cases outcome e b stamp s <;> rw [h]
  · exact storeAnswer_handedOn i b stamp s
  · exact ⟨rfl, rfl, rfl⟩
  · exact .rfl

theorem handAnswer_pool (free : e.descriptor = none) : (handAnswer outcome e b stamp s).pool = s.pool := by
  obtain ⟨i, _, h⟩ | ⟨d, _, descriptor, _⟩ | h := handAnswer_cases outcome e b stamp s
  · rw [h, storeAnswer_pool]
  · exact absurd (free.symm.trans descriptor) (by simp)
  · rw [h]

/-- No answer moves what a report has said of a station. -/
theorem handAnswer_stationAt (i : Fin 32) :
    ((handAnswer outcome e b stamp s).stationAt i).health = (s.stationAt i).health
      ∧ ((handAnswer outcome e b stamp s).stationAt i).failureCount = (s.stationAt i).failureCount
      ∧ ((handAnswer outcome e b stamp s).stationAt i).lastOutcome = (s.stationAt i).lastOutcome := by
  obtain ⟨j, _, h⟩ | ⟨d, kind, _, h⟩ | h := handAnswer_cases outcome e b stamp s <;> rw [h]
  · exact storeAnswer_stationAt j i b stamp s
  · exact ⟨rfl, rfl, rfl⟩
  · exact ⟨rfl, rfl, rfl⟩

theorem handAnswer_stationAt_ne {i : Fin 32} (other : e.station ≠ some i) :
    (handAnswer outcome e b stamp s).stationAt i = s.stationAt i := by
  obtain ⟨j, station, h⟩ | ⟨d, kind, _, h⟩ | h := handAnswer_cases outcome e b stamp s <;> rw [h]
  · exact storeAnswer_stationAt_ne b stamp s fun same => other (same ▸ station)
  · rfl

theorem handReport_stationAt_ne {i : Fin 32} (status : Byte) (other : e.station ≠ some i) :
    (handReport outcome e status s).stationAt i = s.stationAt i := by
  cases station : e.station with
  | none => rw [handReport_none status station]
  | some j =>
    rw [handReport_station status station, stationReport_stationAt, if_neg]
    rintro rfl
    exact other station

end

/-! ### The hand-over (R68, R71) -/

/-- The counters and the record at an exchange's end (R71). -/
theorem LineEngine.ended_eq (g : LineEngine) (outcome : ExchangeResult) :
    g.ended outcome =
      { g with exchange := none, exState := .idle, span := none, driverEnable := false, sending := none,
               exchanges := g.exchanges + 1,
               failed := if classOf outcome = .failure ∧ g.failed < 65535 then g.failed + 1 else g.failed } := by
  by_cases h : classOf outcome = .failure <;> simp [ended, countsAsFailed, saturatingSucc, h]

section
variable (x : Line) (outcome : ExchangeResult) (e : Exchange) (s : State)

/-- What is handed over before the line ends the exchange. -/
theorem handOver_handedOn (b : ReceiveBuffer) (stamp : Word) (status : Byte) :
    HandedOn s (handAnswer outcome e b stamp (handReport outcome e status s)) :=
  (handReport_handedOn outcome e s status).trans (handAnswer_handedOn outcome e b stamp _)

theorem handOver_engineAt : (handOver x outcome e s).engineAt x = (s.engineAt x).ended outcome := by
  rw [handOver, engineAt_modEngine_self, (handOver_handedOn ..).engineAt]

theorem handOver_engineAt_ne {y : Line} (other : y ≠ x) : (handOver x outcome e s).engineAt y = s.engineAt y := by
  rw [handOver, engineAt_modEngine, if_neg other, (handOver_handedOn ..).engineAt]

theorem handOver_config : ((handOver x outcome e s).engineAt x).config = (s.engineAt x).config := by
  rw [handOver_engineAt]
  rfl

theorem handOver_control : ((handOver x outcome e s).engineAt x).control = (s.engineAt x).control := by
  rw [handOver_engineAt]
  rfl

theorem handOver_windDown : ((handOver x outcome e s).engineAt x).windDown = (s.engineAt x).windDown := by
  rw [handOver_engineAt]
  rfl

theorem handOver_sweep : (handOver x outcome e s).sweep = s.sweep := (handOver_handedOn ..).sweep

theorem handOver_safeCalls : (handOver x outcome e s).store.safeCalls = s.store.safeCalls :=
  (handOver_handedOn ..).safeCalls

/-- The hand-over with the exchange's end written out. -/
theorem handOver_eq :
    handOver x outcome e s =
      (handAnswer outcome e (s.engineAt x).buffer (s.sweepAt x).count
        (handReport outcome e (s.engineAt x).buffer.status s)).modEngine x fun g =>
        { g with exchange := none, exState := .idle, span := none, driverEnable := false, sending := none,
                 exchanges := g.exchanges + 1,
                 failed := if classOf outcome = .failure ∧ g.failed < 65535 then g.failed + 1 else g.failed } :=
  congrArg (State.modEngine _ x) (funext fun g => g.ended_eq outcome)

end

/-- Settles O44: the report and the answer by the kind of the exchange, then what the hand-over leaves. -/
theorem handOverCountsAndReports : Obligations.HandOverCountsAndReports := by
  intro s x y outcome e other
  dsimp only
  refine ⟨fun i slot station => ⟨fun good => ?_, fun bad => ?_⟩, fun i d kind station descriptor => ?_,
    fun d kind station descriptor => ?_, fun kind station => ?_, ?_, handOver_engineAt_ne x outcome e s other,
    handOver_sweep x outcome e s, fun i station => ?_, fun i away => ?_, fun free => ?_⟩
  · rw [handOver_eq, handReport_station _ station, handAnswer_slot slot station, if_pos good]
  · rw [handOver_eq, handReport_station _ station, handAnswer_slot slot station, if_neg bad]
  · rw [handOver_eq, handReport_station _ station, handAnswer_request kind descriptor]
  · rw [handOver_eq, handReport_none _ station, handAnswer_broadcast kind descriptor]
  · rw [handOver_eq, handReport_none _ station, handAnswer_safeCall kind]
  · rw [handOver_engineAt, LineEngine.ended_eq]
  · have kept := handAnswer_stationAt outcome e (s.engineAt x).buffer (s.sweepAt x).count
      (handReport outcome e (s.engineAt x).buffer.status s) i
    rw [handReport_station _ station, stationReport_stationAt, if_pos rfl, recordAfterReport_lastOutcome] at kept
    rw [handOver, handReport_station _ station, modEngine_stationAt]
    exact kept
  · rw [handOver, modEngine_stationAt, handAnswer_stationAt_ne _ _ _ _ _ away, handReport_stationAt_ne _ _ _ _ away]
  · rw [handOver, modEngine_pool, handAnswer_pool _ _ _ _ _ free, handReport_pool]

end Sys2Proof.Machine
end

section
/-! The guard time's expiry: what it does with the exchange in flight, and how the line goes on (R36, R61, R63, R64,
R68, R133, R144, R145). -/

namespace Sys2Proof.Machine

/-! ### What it decides (R61, R63, R64) -/

section
variable {s : State} {x : Line} {e : Exchange} {outcome : ExchangeResult}

/-- Another attempt is made after a failure, or BUSY with busy retry, while attempts are left and nothing suppresses it
(R63, R64). -/
theorem retryDue_iff :
    retryDue s x e outcome = true ↔
      (classOf outcome = .failure ∨ outcome = .busy ∧ e.busyRetry = true) ∧ e.made < e.allowed
        ∧ ¬ ((s.engineAt x).control = .stopping ∨ s.supervision.state = .expired
          ∨ ∃ d, e.descriptor = some d ∧ (s.descriptorAt d).cancelRequested = true) := by
  have suppressed : retrySuppressed s x e = true ↔
      (s.engineAt x).control = .stopping ∨ s.supervision.state = .expired
        ∨ ∃ d, e.descriptor = some d ∧ (s.descriptorAt d).cancelRequested = true := by
    unfold retrySuppressed
    cases e.descriptor with
    | none => simp
    | some d => simp [or_assoc, or_comm (a := (s.descriptorAt d).cancelRequested = true)]
  rw [← suppressed]
  simp [retryDue, retriable, and_assoc]

theorem guardExpiry_resting (free : (s.engineAt x).exchange = none) :
    guardExpiry x s =
      if (s.engineAt x).config.mode = .repeating ∧ (s.engineAt x).control = .running
          ∧ (s.engineAt x).windDown = false ∧ (s.sweepAt x).state = .between then
        sweepAndGive x (s.modEngine x fun g => { g with exState := .idle, span := none })
      else s.modEngine x fun g => { g with exState := .idle, span := none } := by
  simp only [guardExpiry, free]

/-- A first attempt that waited begins (R61); a safe call takes its image now (R144; log 17). -/
theorem guardExpiry_waiting (flight : (s.engineAt x).exchange = some e) (waits : e.outcome = none) :
    guardExpiry x s = s.modEngine x fun g => g.call (if e.kind = .safeCall then safeCallExchange s x else e) := by
  simp only [guardExpiry, flight, waits, beginWaiting]
  cases e.kind <;> rfl

theorem guardExpiry_retry (flight : (s.engineAt x).exchange = some e) (closed : e.outcome = some outcome)
    (due : retryDue s x e outcome = true) : guardExpiry x s = s.modEngine x fun g => g.call e := by
  simp only [guardExpiry, flight, closed, beginCalling]
  exact if_pos due

theorem guardExpiry_ends (flight : (s.engineAt x).exchange = some e) (closed : e.outcome = some outcome)
    (spent : ¬ retryDue s x e outcome = true) : guardExpiry x s = goOn x e.kind (handOver x outcome e s) := by
  simp only [guardExpiry, flight, closed]
  exact if_neg spent

end

/-! ### How the line goes on (R68, R133, R144, R145) -/

section
variable {s : State} {x : Line} {kind : ExchangeKind}

theorem goOn_safeCall (winding : (s.engineAt x).windDown = true) (enabled : (s.engineAt x).config.safeCallEnable = true)
    (unsent : kind ≠ .safeCall) : goOn x kind s = startSafeCall x s := by
  simp [goOn, winding, enabled, unsent]

theorem goOn_halts (winding : (s.engineAt x).windDown = true)
    (done : (s.engineAt x).config.safeCallEnable = false ∨ kind = .safeCall) :
    goOn x kind s = enterLine x (.halted .supervision) s := by
  obtain off | sent := done
  · simp [goOn, winding, off]
  · simp [goOn, winding, sent]

theorem goOn_running (quiet : (s.engineAt x).windDown = false) (running : (s.engineAt x).control = .running) :
    goOn x kind s = pickAndGive x s := by
  simp [goOn, quiet, running]

theorem goOn_stopping (quiet : (s.engineAt x).windDown = false) (stopping : (s.engineAt x).control = .stopping) :
    goOn x kind s = enterLine x .stopped s := by
  simp [goOn, quiet, stopping]

end

/-- Behind a hand-over the safe call begins at once, with its buffer as it stood (R144, R145). -/
theorem startSafeCall_handOver (x : Line) (outcome : ExchangeResult) (e : Exchange) (s : State) :
    startSafeCall x (handOver x outcome e s) =
      (handOver x outcome e s).modEngine x fun g => g.call (safeCallExchange s x) := by
  have record : safeCallExchange (handOver x outcome e s) x = safeCallExchange s x := by
    simp only [safeCallExchange, handOver_safeCalls]
  rw [startSafeCall, record]
  exact acceptExchange_idle _ (by rw [handOver_engineAt]; rfl)

/-- Settles O43: nothing in flight, a waiting attempt, a retry, or the end and how the line goes on. -/
theorem guardTimeExpiryActs : Obligations.GuardTimeExpiryActs := by
  intro s x left
  dsimp only
  intro here span unedged
  have expires {t : State} (h : guardExpiry x s = t) : exec (.guardTimeExpiry x) s = .next t :=
    congrArg Host.Outcome.next ((spanReached_runs unedged span here).trans h)
  refine ⟨fun free => ⟨fun waits => ?_, fun rests => ?_⟩, fun e flight waits => ?_, fun e outcome flight closed => ?_⟩
  · exact expires ((guardExpiry_resting free).trans (if_pos waits))
  · exact expires ((guardExpiry_resting free).trans (if_neg rests))
  · exact expires (guardExpiry_waiting flight waits)
  · have ends := fun h => guardExpiry_ends flight closed (mt retryDue_iff.1 h)
    have winds := handOver_windDown x outcome e s
    have control := handOver_control x outcome e s
    refine ⟨fun retried => ?_, fun unretried winding enabled unsent => ?_, fun unretried winding done => ?_,
      fun unretried quiet running => ?_, fun unretried quiet stopping => ?_⟩
    · exact expires (guardExpiry_retry flight closed (retryDue_iff.2 retried))
    · have enabled : ((handOver x outcome e s).engineAt x).config.safeCallEnable = true := by rwa [handOver_config]
      exact expires (((ends unretried).trans (goOn_safeCall (winds.trans winding) enabled unsent)).trans
        (startSafeCall_handOver x outcome e s))
    · exact expires ((ends unretried).trans (goOn_halts (winds.trans winding) (by rwa [handOver_config])))
    · exact expires ((ends unretried).trans (goOn_running (winds.trans quiet) (control.trans running)))
    · exact expires ((ends unretried).trans (goOn_stopping (winds.trans quiet) (control.trans stopping)))

end Sys2Proof.Machine
end

section
/-! The laws of one line as its Line Engine and its Sweep Controller show them (R33, R46, R48, R49, R63, R86, R141): the
law of the exchange by the exchange state, and what each change of a Line Engine makes of it. -/

namespace Sys2Proof.Machine

/-! ### The law of the exchange, by the exchange state -/

/-- Driver enable and a frame on the transmit pin: both or neither. -/
def LineEngine.Driving (g : LineEngine) (on : Bool) : Prop := g.driverEnable = on ∧ g.sending.isSome = on

/-- At least one attempt is allowed, and no more are made (R63). -/
def Exchange.Within (e : Exchange) : Prop := e.made ≤ e.allowed ∧ 1 ≤ e.allowed

/-- What each exchange state says of the transmit pin and of the exchange in flight (R48, R49, R60, R61, R63, R86). -/
def LineEngine.flightLawful (g : LineEngine) : Prop :=
  match g.exState with
  | .idle => g.Driving false ∧ g.exchange = none
  | .calling => g.Driving true ∧ ∃ e, g.exchange = some e ∧ e.Within
  | .awaiting | .receiving => g.Driving false ∧ ∃ e, g.exchange = some e ∧ e.Within
  | .draining => g.Driving false ∧ ∃ e, g.exchange = some e ∧ e.Within ∧ e.outcome ≠ none
  | .guarding => g.Driving false ∧ ∀ e, g.exchange = some e → e.Within ∧ (e.outcome = none → e.made = 0)

theorem LineEngine.flightLawful_iff {g : LineEngine} : g.flightLawful ↔ g.driverLawful ∧ g.attemptsLawful := by
  unfold flightLawful driverLawful attemptsLawful Driving Exchange.Within
  cases flight : g.exchange with
  | none => cases g.exState <;> simp
  | some e => cases g.exState <;> simp [and_assoc]

section
variable {g : LineEngine}

theorem LineEngine.flightLawful.within (h : g.flightLawful) {e : Exchange} (flight : g.exchange = some e) :
    e.Within := by
  obtain ⟨made, allowed, _⟩ := (flightLawful_iff.1 h).2 e flight
  exact ⟨made, allowed⟩

/-- Outside CALLING nothing drives the pin (R86). -/
theorem LineEngine.flightLawful.undriven (h : g.flightLawful) (silent : g.exState ≠ .calling) : g.Driving false := by
  obtain ⟨enable, sending, _⟩ := (flightLawful_iff.1 h).1
  exact ⟨Bool.eq_false_iff.2 (mt enable.1 silent), Bool.eq_false_iff.2 (mt sending.1 silent)⟩

/-- A line without an exchange in flight is IDLE or in GUARD (R48, R61). -/
theorem LineEngine.flightLawful.resting (h : g.flightLawful) (free : g.exchange = none) :
    g.exState = .idle ∨ g.exState = .guarding := (flightLawful_iff.1 h).1.2.2.2 free

theorem LineEngine.flightLawful.free (h : g.flightLawful) (idle : g.exState = .idle) : g.exchange = none :=
  (flightLawful_iff.1 h).1.2.2.1 idle

/-- Outside IDLE and GUARD an exchange is in flight (R48). -/
theorem LineEngine.flightLawful.flying (h : g.flightLawful) (idle : g.exState ≠ .idle) (guard : g.exState ≠ .guarding) :
    ∃ e, g.exchange = some e :=
  Option.ne_none_iff_exists'.1 fun none => (h.resting none).elim idle guard

/-- In GUARD an attempt without an outcome is one not yet made (R49). -/
theorem LineEngine.flightLawful.unmade (h : g.flightLawful) (guarding : g.exState = .guarding) {e : Exchange}
    (flight : g.exchange = some e) (waits : e.outcome = none) : e.made = 0 :=
  ((flightLawful_iff.1 h).2 e flight).2.2.1 guarding waits

/-- In DRAINING the outcome is recorded (R60). -/
theorem LineEngine.flightLawful.recorded (h : g.flightLawful) (draining : g.exState = .draining) {e : Exchange}
    (flight : g.exchange = some e) : e.outcome ≠ none := ((flightLawful_iff.1 h).2 e flight).2.2.2 draining

end

/-! ### The law of one line -/

/-- A line that may carry an exchange: RUNNING or STOPPING, or STOPPED in its wind-down (R128, R145). -/
def LineEngine.Serving (g : LineEngine) : Prop := g.control ≠ .halted ∧ (g.control = .stopped → g.windDown = true)

/-- A Sweep Controller at rest (R33, R46). -/
def SweepController.Resting (c : SweepController) : Prop :=
  c.state = .inactive ∧ c.pendingStart = false ∧ c.timerRunning = false ∧ c.mark = false

/-- The laws of one line, by its Line Engine, its Sweep Controller and the state of the Supervision Timer. -/
structure LineLaw (g : LineEngine) (c : SweepController) (t : SupervisionState) : Prop where
  flight : g.flightLawful
  serving : g.Serving ∨ g.exState = .idle
  resting : g.control = .stopped ∨ g.control = .halted → c.Resting
  windDown : g.windDown = true → t = .expired

theorem LineEngine.serving_of_running {g : LineEngine} (running : g.control = .running) : g.Serving := by
  simp [Serving, running]

theorem LineEngine.serving_of_receiverOn {g : LineEngine} (on : g.receiverOn = true) : g.Serving := by
  unfold receiverOn at on
  unfold Serving
  cases control : g.control <;> simp_all

/-- Work given to a line before its first attempt (R50, R51). -/
def Exchange.Fresh (e : Exchange) : Prop := e.made = 0 ∧ 1 ≤ e.allowed

section
variable {g g' : LineEngine} {c c' : SweepController} {t : SupervisionState}

/-- A line where an exchange state runs is in service. -/
theorem LineLaw.busy (h : LineLaw g c t) (busy : g.exState ≠ .idle) : g.Serving := h.serving.resolve_right busy

/-- A change within the exchange, on a line in service or to IDLE. -/
theorem LineLaw.moved (h : LineLaw g c t) (control : g'.control = g.control) (windDown : g'.windDown = g.windDown)
    (serving : g.Serving ∨ g'.exState = .idle) (flight : g'.flightLawful) : LineLaw g' c t where
  flight := flight
  serving := serving.imp_left fun ⟨alive, winding⟩ => by
    unfold LineEngine.Serving
    rw [control, windDown]
    exact ⟨alive, winding⟩
  resting rests := h.resting (control ▸ rests)
  windDown winding := h.windDown (windDown ▸ winding)

/-- What the laws of a line read of its Line Engine. -/
def LineEngine.lawView (g : LineEngine) : LineState × Bool × ExchangeState × Option Exchange × Bool × Bool :=
  (g.control, g.windDown, g.exState, g.exchange, g.driverEnable, g.sending.isSome)

/-- A change of anything else. -/
theorem LineLaw.viewed (h : LineLaw g c t) (same : g'.lawView = g.lawView) : LineLaw g' c t := by
  simp only [LineEngine.lawView, Prod.mk.injEq] at same
  obtain ⟨control, windDown, state, exchange, enable, sending⟩ := same
  refine h.moved control windDown (state ▸ h.serving) ?_
  have flight := h.flight
  unfold LineEngine.flightLawful LineEngine.Driving at flight ⊢
  rwa [state, exchange, enable, sending]

/-- A Sweep Controller may move while its line is in service, and stay at rest while it is not. -/
theorem LineLaw.swept (h : LineLaw g c t)
    (rests : g.control = .stopped ∨ g.control = .halted → c.Resting → c'.Resting) : LineLaw g c' t where
  flight := h.flight
  serving := h.serving
  resting off := rests off (h.resting off)
  windDown := h.windDown

theorem LineLaw.swept_running (h : LineLaw g c t) (running : g.control = .running) : LineLaw g c' t :=
  h.swept fun off => by simp [running] at off

/-- The Supervision Timer may change while the line is not winding down, and become EXPIRED at any time. -/
theorem LineLaw.supervised {t' : SupervisionState} (h : LineLaw g c t)
    (kept : g.windDown = true → t' = .expired) : LineLaw g c t' where
  flight := h.flight
  serving := h.serving
  resting := h.resting
  windDown := kept

/-! ### What the changes of a Line Engine keep -/

/-- An attempt begins while attempts are left (R52, R63, R86). -/
theorem LineLaw.call (h : LineLaw g c t) (serving : g.Serving) {e : Exchange} (left : e.made < e.allowed) :
    LineLaw (g.call e) c t :=
  h.moved (Eq.refl _) (Eq.refl _) (.inl serving)
    ⟨⟨Eq.refl _, Eq.refl _⟩, _, Eq.refl _, left, Nat.lt_of_le_of_lt (Nat.zero_le _) left⟩

/-- A line in service with no exchange in flight takes work (R49). -/
theorem LineLaw.accept (h : LineLaw g c t) (serving : g.Serving) (free : g.exchange = none) {e : Exchange}
    (fresh : e.Fresh) : LineLaw (if g.exState = .idle then g.call e else { g with exchange := some e }) c t := by
  obtain ⟨made, allowed⟩ := fresh
  split
  · exact h.call serving (made ▸ allowed)
  · next busy =>
    have guarding := (h.flight.resting free).resolve_left busy
    refine h.moved (Eq.refl _) (Eq.refl _) (.inl serving) ?_
    have undriven := h.flight.undriven (by simp [guarding])
    simp only [LineEngine.flightLawful, guarding]
    refine ⟨undriven, ?_⟩
    rintro _ ⟨⟩
    exact ⟨⟨made ▸ Nat.zero_le _, allowed⟩, fun _ => made⟩

/-- GUARD is entered from IDLE or DRAINING, or its guard time restarted (R60 to R62). -/
theorem LineLaw.guard (h : LineLaw g c t) (serving : g.Serving)
    (closed : g.exState = .idle ∨ g.exState = .draining ∨ g.exState = .guarding) (span : Option Nat) :
    LineLaw { g with exState := .guarding, span := span } c t := by
  refine h.moved (Eq.refl _) (Eq.refl _) (.inl serving)
    ⟨h.flight.undriven (by obtain state | state | state := closed <;> simp [state]), fun e flight => ?_⟩
  refine ⟨h.flight.within flight, fun waits => ?_⟩
  obtain state | state | state := closed
  · exact nomatch flight.symm.trans (h.flight.free state)
  · exact absurd waits (h.flight.recorded state flight)
  · exact h.flight.unmade state flight waits

/-- The record of an exchange with its outcome keeps its attempts. -/
theorem recorded_within {o : Option Exchange} {outcome : ExchangeResult} (within : ∀ e, o = some e → e.Within)
    {e : Exchange} (flight : o.map (fun e => { e with outcome := some outcome }) = some e) :
    e.Within ∧ e.outcome ≠ none := by
  obtain ⟨d, hd, rfl⟩ := Option.map_eq_some_iff.1 flight
  exact ⟨within d hd, by simp⟩

/-- An attempt is closed on a line whose pin is released: its outcome recorded, GUARD entered (R53, R54, R58, R59). -/
theorem LineEngine.flightLawful_closed (undriven : g.Driving false) (within : ∀ e, g.exchange = some e → e.Within)
    (outcome : ExchangeResult) (span : Option Nat) :
    ({ g with exState := .guarding, exchange := g.exchange.map fun e => { e with outcome := some outcome },
              span := span } : LineEngine).flightLawful :=
  ⟨undriven, fun _ flight =>
    have recorded := recorded_within within flight
    ⟨recorded.1, fun waits => absurd waits recorded.2⟩⟩

/-- DRAINING is entered from RECEIVING with the outcome recorded (R56, R57, R60). -/
theorem LineLaw.drain (h : LineLaw g c t) (receiving : g.exState = .receiving) (outcome : ExchangeResult)
    (span : Option Nat) :
    LineLaw { g with exState := .draining, span := span,
                     exchange := g.exchange.map fun e => { e with outcome := some outcome } } c t := by
  obtain ⟨e, flight⟩ := h.flight.flying (by simp [receiving]) (by simp [receiving])
  have within : e.Within := h.flight.within flight
  refine h.moved (Eq.refl _) (Eq.refl _) (.inl (h.busy (by simp [receiving])))
    ⟨h.flight.undriven (by simp [receiving]), { e with outcome := some outcome }, ?_⟩
  exact ⟨by simp [flight], within, by simp⟩

/-- An exchange ends: IDLE with nothing in flight (R68). -/
theorem LineLaw.ended (h : LineLaw g c t) (outcome : ExchangeResult) : LineLaw (g.ended outcome) c t :=
  h.moved (Eq.refl _) (Eq.refl _) (.inr (Eq.refl _)) ⟨⟨Eq.refl _, Eq.refl _⟩, Eq.refl _⟩

/-- A line that enters STOPPED or HALTED rests (R33, R46, R136). -/
theorem LineLaw.entered (target : EntryTarget) (rests : c.Resting) : LineLaw (g.entered target) c t where
  flight := ⟨⟨Eq.refl _, Eq.refl _⟩, Eq.refl _⟩
  serving := .inr (Eq.refl _)
  resting _ := rests
  windDown winding := nomatch winding

/-- A line that stops behind its exchange, or in an abort's tail, is STOPPING (R132, R134, R186). -/
theorem LineLaw.stopping (h : LineLaw g c t) (aborting : Bool) :
    LineLaw { g with abortPending := aborting, control := .stopping } c t where
  flight := h.flight
  serving := .inl (by simp [LineEngine.Serving])
  resting off := by simp at off
  windDown := h.windDown

/-- A line winds down while the Supervision Timer is EXPIRED (R143). -/
theorem LineLaw.winding (h : LineLaw g c t) (expired : t = .expired) : LineLaw { g with windDown := true } c t where
  flight := h.flight
  serving := h.serving.imp_left fun ⟨alive, _⟩ => ⟨alive, fun _ => Eq.refl _⟩
  resting := h.resting
  windDown _ := expired

/-- A line that is not in service is IDLE (R48). -/
theorem LineLaw.idle (h : LineLaw g c t) (off : g.inService = false) : g.exState = .idle := by
  refine h.serving.resolve_left fun ⟨alive, winding⟩ => ?_
  unfold LineEngine.inService at off
  cases control : g.control <;> simp_all

theorem SweepController.abandoned_resting (c : SweepController) : c.abandoned.Resting :=
  ⟨Eq.refl _, Eq.refl _, Eq.refl _, Eq.refl _⟩

/-- AWAITING and RECEIVING say the same of a line. -/
theorem LineLaw.answering (h : LineLaw g c t) (control : g'.control = g.control) (windDown : g'.windDown = g.windDown)
    (before : g.exState = .awaiting ∨ g.exState = .receiving) (after : g'.exState = .awaiting ∨ g'.exState = .receiving)
    (undriven : g'.Driving false) (exchange : g'.exchange = g.exchange) : LineLaw g' c t := by
  have busy : g.exState ≠ .idle ∧ g.exState ≠ .guarding := by obtain state | state := before <;> simp [state]
  obtain ⟨e, flight⟩ := h.flight.flying busy.1 busy.2
  refine h.moved control windDown (.inl (h.busy busy.1)) ?_
  unfold LineEngine.flightLawful
  obtain state | state := after <;> rw [state]
  all_goals exact ⟨undriven, e, exchange.trans flight, h.flight.within flight⟩

/-- A falling edge may take AWAITING to RECEIVING (R54, R74). -/
theorem LineLaw.begun (h : LineLaw g c t) (r : Reception) (left : Nat) (later : List LaterEdge) :
    LineLaw (g.begun r left later) c t := by
  by_cases awaiting : g.exState = .awaiting
  · exact h.answering (Eq.refl _) (Eq.refl _) (.inl awaiting) (.inr (if_pos awaiting))
      (h.flight.undriven (by simp [awaiting])) (Eq.refl _)
  · exact h.viewed (by simp [LineEngine.lawView, LineEngine.begun, awaiting])

theorem LineLaw.fallingEdge (h : LineLaw g c t) : LineLaw g.fallingEdge c t := by
  unfold LineEngine.fallingEdge
  dsimp only
  split
  · exact LineLaw.begun (g := { g with lowSpan := some (g.config.spanOf breakLimit) }) (h.viewed (Eq.refl _)) _ _ _
  · exact h.viewed (Eq.refl _)

/-- An edge's rejection may take RECEIVING back to AWAITING (R74). -/
theorem LineLaw.rejected (h : LineLaw g c t) (e : FallingEdge) : LineLaw (g.rejected e) c t := by
  by_cases awaited : e.awaited = true ∧ g.exState = .receiving
  · exact h.answering (Eq.refl _) (Eq.refl _) (.inr awaited.2) (.inl (if_pos awaited))
      (h.flight.undriven (by simp [awaited.2])) (Eq.refl _)
  · have kept : g.stateBefore e = g.exState := if_neg awaited
    exact h.viewed (by simp [LineEngine.lawView, LineEngine.rejected, kept])

/-- A middle sample (R74). -/
theorem LineLaw.sampled (h : LineLaw g c t) (rx : PinLevel) : LineLaw (g.sampled rx) c t := by
  unfold LineEngine.sampled
  split
  · exact h
  split
  · exact h
  split
  · exact h.viewed (Eq.refl _)
  · unfold LineEngine.sampledHigh
    split
    · exact h.rejected _
    · exact h.viewed (Eq.refl _)

/-- One microsecond on a line (log 2). -/
theorem LineLaw.tick (h : LineLaw g c t) (rx : PinLevel) : LineLaw (g.tick rx) c.tick t := by
  have counted : LineLaw g.counted c t := h.viewed (by simp [LineEngine.lawView, LineEngine.counted])
  refine (counted.sampled rx).swept fun _ rests => ?_
  rw [SweepController.tick_eq]
  exact rests

end

end Sys2Proof.Machine
end

section
/-! The laws of the lines through the shared operations: what works aside from the lines, the changes of one line, the
exchange, the entry into STOPPED or HALTED, and the picks. -/

namespace Sys2Proof.Machine

/-! ### Work aside from the lines -/

/-- `t` comes from `s` by work aside from the lines: the Line Engines, the Sweep Controllers and the state of the
Supervision Timer stay. -/
structure Aside (s t : State) : Prop where
  engine : t.engine = s.engine
  sweep : t.sweep = s.sweep
  supervision : t.supervision.state = s.supervision.state

theorem Aside.refl (s : State) : Aside s s := ⟨rfl, rfl, rfl⟩

theorem Aside.trans {s t u : State} (h : Aside s t) (h' : Aside t u) : Aside s u :=
  ⟨h'.engine.trans h.engine, h'.sweep.trans h.sweep, h'.supervision.trans h.supervision⟩

theorem Aside.engineAt {s t : State} (h : Aside s t) (x : Line) : t.engineAt x = s.engineAt x := by
  rw [State.engineAt, h.engine, State.engineAt]

theorem Aside.sweepAt {s t : State} (h : Aside s t) (x : Line) : t.sweepAt x = s.sweepAt x := by
  rw [State.sweepAt, h.sweep, State.sweepAt]

/-- A guarded update, as every strobe through the window is one. -/
theorem ite_aside {c : Prop} [Decidable c] {s t u : State} (ht : Aside s t) (hu : Aside s u) :
    Aside s (if c then t else u) := by
  split
  · exact ht
  · exact hu

theorem post_aside (r : EventRecord) (s : State) : Aside s (post r s) := ⟨rfl, rfl, rfl⟩

theorem setStation_aside (i : Fin 32) (r : Station) (s : State) : Aside s (s.setStation i r) := ⟨rfl, rfl, rfl⟩

theorem postAll_aside : ∀ (rs : List EventRecord) (s : State), Aside s (postAll rs s)
  | [], s => .refl s
  | r :: rest, s => (post_aside r s).trans (postAll_aside rest _)

theorem finish_aside (c : Completion) : Aside c.state (finish c) := ⟨rfl, rfl, rfl⟩

theorem swapCommit_aside (i : Fin 32) (s : State) : Aside s (swapCommit i s) := ⟨rfl, rfl, rfl⟩

theorem swapCommits_aside : ∀ (is : List (Fin 32)) (s : State), Aside s (swapCommits is s)
  | [], s => .refl s
  | i :: rest, s => (swapCommit_aside i s).trans (swapCommits_aside rest _)

theorem takeCommit_aside (i : Fin 32) (s : State) : Aside s (takeCommit i s) :=
  ite_aside ((swapCommit_aside i s).trans (post_aside _ _)) (.refl s)

theorem closeOpenView_aside (s : State) : Aside s (closeOpenView s) := by
  unfold closeOpenView
  dsimp only
  split
  · split <;> exact ⟨rfl, rfl, rfl⟩
  · exact ⟨rfl, rfl, rfl⟩

theorem finishDescriptor_aside (d : Fin 16) (o : ExchangeResult) (n : Nat) (a : RequestAnswer) (s : State) :
    Aside s (finishDescriptor d o n a s) := ⟨rfl, rfl, rfl⟩

theorem completeAllQueued_aside (o : ExchangeResult) :
    ∀ (ds : List (Fin 16)) (s : State), Aside s (completeAllQueued o ds s)
  | [], s => .refl s
  | d :: rest, s => (finishDescriptor_aside d o 0 _ s).trans (completeAllQueued_aside o rest _)

theorem handReport_aside (o : ExchangeResult) (e : Exchange) (status : Byte) (s : State) :
    Aside s (handReport o e status s) := by
  cases station : e.station with
  | none => rw [handReport_none status station]; exact .refl s
  | some i =>
    rw [handReport_station status station]
    exact (setStation_aside i _ s).trans (postAll_aside _ _)

theorem handAnswer_aside (o : ExchangeResult) (e : Exchange) (b : ReceiveBuffer) (stamp : Word) (s : State) :
    Aside s (handAnswer o e b stamp s) := by
  obtain ⟨i, _, h⟩ | ⟨d, kind, _, h⟩ | h := handAnswer_cases o e b stamp s <;> rw [h]
  · obtain ⟨_, _, _, _, stored⟩ := storeAnswer_cases i b stamp s
    rw [stored]
    exact ⟨rfl, rfl, rfl⟩
  · exact finishDescriptor_aside d _ _ _ s
  · exact .refl s

theorem setRx_aside (x : Line) (level : PinLevel) (s : State) : Aside s (s.setRx x level) := ⟨rfl, rfl, rfl⟩

theorem takeHead_aside (x : Line) (u : Urgency) (s : State) : Aside s (takeHead x u s).1 := by
  cases h : s.fifo x u with
  | nil => simp only [takeHead, h]; exact .refl s
  | cons d more => rw [takeHead_cons h]; exact ⟨by simp, by simp, by simp⟩

theorem interleave_aside (rs rs' : List EventRecord) (s : State) : Aside s (interleave rs rs' s).2 := by
  rw [(interleave_spec rs rs' s).1]
  exact ⟨rfl, rfl, rfl⟩

/-! ### Changes of one line -/

theorem linesLawful_iff {s : State} :
    linesLawful s ↔ ∀ x, LineLaw (s.engineAt x) (s.sweepAt x) s.supervision.state := by
  refine forall_congr' fun x => ⟨fun ⟨driver, attempts, rest, windDown⟩ => ?_, fun h => ?_⟩
  · refine ⟨LineEngine.flightLawful_iff.2 ⟨driver, attempts⟩, ?_, fun off => ?_, windDown⟩
    · by_cases off : (s.engineAt x).control = .stopped ∨ (s.engineAt x).control = .halted
      · obtain ⟨_, _, _, _, ⟨winding, stopped⟩ | idle⟩ := rest off
        · exact .inl ⟨by simp [stopped], fun _ => winding⟩
        · exact .inr idle
      · exact .inl ⟨fun halted => off (.inr halted), fun stopped => absurd (.inl stopped) off⟩
    · obtain ⟨state, start, timer, mark, _⟩ := rest off
      exact ⟨state, start, timer, mark⟩
  · obtain ⟨driver, attempts⟩ := LineEngine.flightLawful_iff.1 h.flight
    refine ⟨driver, attempts, fun off => ?_, h.windDown⟩
    obtain ⟨state, start, timer, mark⟩ := h.resting off
    refine ⟨state, start, timer, mark, h.serving.imp_left fun ⟨alive, winding⟩ => ?_⟩
    have stopped := off.resolve_right alive
    exact ⟨winding stopped, stopped⟩

section
variable {s t : State} {x : Line}

theorem linesLawful.line (hs : linesLawful s) (x : Line) :
    LineLaw (s.engineAt x) (s.sweepAt x) s.supervision.state := linesLawful_iff.1 hs x

theorem linesLawful.aside (hs : linesLawful s) (h : Aside s t) : linesLawful t :=
  linesLawful_iff.2 fun x => by
    rw [h.engineAt, h.sweepAt, h.supervision]
    exact hs.line x

theorem linesLawful.modEngine {f : LineEngine → LineEngine} (hs : linesLawful s)
    (h : LineLaw (f (s.engineAt x)) (s.sweepAt x) s.supervision.state) : linesLawful (s.modEngine x f) :=
  linesLawful_iff.2 fun y => by
    rw [engineAt_modEngine]
    split
    · next same => exact same ▸ h
    · exact hs.line y

theorem linesLawful.modSweep {f : SweepController → SweepController} (hs : linesLawful s)
    (h : LineLaw (s.engineAt x) (f (s.sweepAt x)) s.supervision.state) : linesLawful (s.modSweep x f) :=
  linesLawful_iff.2 fun y => by
    rw [sweepAt_modSweep]
    split
    · next same => exact same ▸ h
    · exact hs.line y

/-- A change that the laws do not read. -/
theorem linesLawful.modEngine_viewed {f : LineEngine → LineEngine} (hs : linesLawful s)
    (same : (f (s.engineAt x)).lawView = (s.engineAt x).lawView) : linesLawful (s.modEngine x f) :=
  hs.modEngine ((hs.line x).viewed same)

/-- A change of a Sweep Controller that leaves one at rest at rest. -/
theorem linesLawful.modSweep_rests {f : SweepController → SweepController} (hs : linesLawful s)
    (rests : (s.sweepAt x).Resting → (f (s.sweepAt x)).Resting) : linesLawful (s.modSweep x f) :=
  hs.modSweep ((hs.line x).swept fun _ => rests)

/-! ### The exchange -/

theorem enterGuard_linesLawful (hs : linesLawful s) (serving : (s.engineAt x).Serving)
    (closed : (s.engineAt x).exState = .idle ∨ (s.engineAt x).exState = .draining
      ∨ (s.engineAt x).exState = .guarding) :
    linesLawful (enterGuard x s) :=
  hs.modEngine ((hs.line x).guard serving closed _)

/-- An attempt that waits for its answer, or receives it, is closed (R54, R58, R59). -/
theorem closeAttempt_linesLawful (outcome : ExchangeResult) (hs : linesLawful s)
    (answering : (s.engineAt x).exState = .awaiting ∨ (s.engineAt x).exState = .receiving) :
    linesLawful (closeAttempt x outcome s) := by
  have law := hs.line x
  have silent : (s.engineAt x).exState ≠ .calling ∧ (s.engineAt x).exState ≠ .idle := by
    obtain state | state := answering <;> simp [state]
  rw [closeAttempt_eq]
  exact hs.modEngine (law.moved rfl rfl (.inl (law.busy silent.2))
    (LineEngine.flightLawful_closed (law.flight.undriven silent.1) (fun _ => law.flight.within) outcome _))

theorem acceptExchange_linesLawful {e : Exchange} (hs : linesLawful s) (serving : (s.engineAt x).Serving)
    (free : (s.engineAt x).exchange = none) (fresh : e.Fresh) : linesLawful (acceptExchange x e s) :=
  hs.modEngine ((hs.line x).accept serving free fresh)

theorem attemptsAllowed_pos (kind : ExchangeKind) (r : Station) : 1 ≤ attemptsAllowed kind r := by
  unfold attemptsAllowed
  split
  · exact Nat.succ_pos _
  · split
    · exact Nat.le_refl _
    · exact Nat.succ_pos _
  all_goals exact Nat.le_refl _

theorem slotExchange_fresh (s : State) (i : Fin 32) (kind : ExchangeKind) : (slotExchange s i kind).Fresh :=
  ⟨rfl, attemptsAllowed_pos kind _⟩

theorem requestExchange_fresh (s : State) (d : Fin 16) : (requestExchange s d).Fresh := by
  unfold requestExchange
  dsimp only
  split
  · exact ⟨rfl, attemptsAllowed_pos .request _⟩
  · exact ⟨rfl, Nat.le_refl _⟩

theorem safeCallExchange_fresh (s : State) (x : Line) : (safeCallExchange s x).Fresh := ⟨rfl, Nat.le_refl _⟩

theorem handOver_linesLawful (outcome : ExchangeResult) (e : Exchange) (hs : linesLawful s) :
    linesLawful (handOver x outcome e s) :=
  have handed := hs.aside ((handReport_aside outcome e _ s).trans
    (handAnswer_aside outcome e (s.engineAt x).buffer (s.sweepAt x).count _))
  handed.modEngine ((handed.line x).ended outcome)

/-! ### The entry into STOPPED or HALTED (R136) -/

/-- The Line Engine and the Sweep Controller of a line change apart. -/
theorem modSweep_modEngine_comm (x : Line) (f : LineEngine → LineEngine) (h : SweepController → SweepController)
    (s : State) : (s.modEngine x f).modSweep x h = (s.modSweep x h).modEngine x f := rfl

/-- The sweep abandoned and the engine entered: in whatever order, the line is at rest behind both. -/
theorem entered_linesLawful (target : EntryTarget) (hs : linesLawful s) :
    linesLawful ((s.modEngine x fun g => g.entered target).modSweep x SweepController.abandoned) := by
  have resting := SweepController.abandoned_resting (s.sweepAt x)
  have rested : linesLawful (s.modSweep x SweepController.abandoned) :=
    hs.modSweep_rests fun _ => resting
  rw [modSweep_modEngine_comm]
  exact rested.modEngine (.entered target (by rwa [sweepAt_modSweep_self]))

theorem enterQuietly_linesLawful (target : EntryTarget) (hs : linesLawful s) :
    linesLawful (enterQuietly x target s) := by
  have entered := (entered_linesLawful (x := x) target hs).aside (swapCommits_aside (pendingCommits s x) _)
  cases target with
  | stopped => exact entered
  | halted cause => exact entered.aside ⟨rfl, rfl, rfl⟩

theorem enterLine_linesLawful (target : EntryTarget) (hs : linesLawful s) : linesLawful (enterLine x target s) :=
  (enterQuietly_linesLawful target hs).aside (postAll_aside _ _)

theorem endInto_linesLawful (outcome : ExchangeResult) (target : EntryTarget) (hs : linesLawful s) :
    linesLawful (endInto x outcome target s) := by
  unfold endInto
  split
  · exact enterLine_linesLawful target (handOver_linesLawful outcome _ hs)
  · exact enterLine_linesLawful target hs

theorem endTail_linesLawful (hs : linesLawful s) : linesLawful (endTail x s) := by
  unfold endTail
  split
  · exact endInto_linesLawful _ _ hs
  · exact entered_linesLawful .stopped hs

theorem endQuietly_linesLawful (hs : linesLawful s) : linesLawful (endQuietly x s) := by
  unfold endQuietly
  split
  · exact hs.modEngine ((hs.line x).stopping true)
  split
  · exact hs
  · exact entered_linesLawful .stopped hs

end

/-! ### Picks (R30 to R38) -/

/-- A lawful state whose line `x` is RUNNING with no exchange in flight: where a pick is made. -/
structure Vacant (x : Line) (s : State) : Prop where
  lawful : linesLawful s
  running : (s.engineAt x).control = .running
  free : (s.engineAt x).exchange = none

section
variable {s t : State} {x : Line}

theorem Vacant.serving (h : Vacant x s) : (s.engineAt x).Serving := LineEngine.serving_of_running h.running

theorem Vacant.aside (h : Vacant x s) (a : Aside s t) : Vacant x t where
  lawful := h.lawful.aside a
  running := by rw [a.engineAt, h.running]
  free := by rw [a.engineAt, h.free]

theorem Vacant.modSweep (h : Vacant x s) (f : SweepController → SweepController) : Vacant x (s.modSweep x f) where
  lawful := h.lawful.modSweep ((h.lawful.line x).swept_running h.running)
  running := h.running
  free := h.free

/-- The wait of an idle REPEAT line (R36). -/
theorem Vacant.idleWait (h : Vacant x s) : Vacant x (idleWait x s) where
  lawful := enterGuard_linesLawful h.lawful h.serving
    (((h.lawful.line x).flight.resting h.free).imp_right .inr)
  running := by simpa [Machine.idleWait, enterGuard] using h.running
  free := by simpa [Machine.idleWait, enterGuard] using h.free

theorem scanSlots_vacant (slots : List Slot) (h : Vacant x s) : Vacant x (scanSlots x slots s).1 := by
  induction slots generalizing s with
  | nil => exact h.modSweep fun c => { c with pointer := 49 }
  | cons slot rest ih =>
    unfold scanSlots
    split
    · dsimp only
      split
      · exact ih (h.modSweep _)
      · exact ih ((h.modSweep _).aside (setStation_aside _ _ _))
      · exact (h.modSweep _).aside (setStation_aside _ _ _)
      · exact h.modSweep _
    · exact ih (h.modSweep _)

theorem takeHead_vacant (u : Urgency) (h : Vacant x s) : Vacant x (takeHead x u s).1 := h.aside (takeHead_aside x u s)

theorem endSweep_vacant (h : Vacant x s) : Vacant x (endSweep x s) := by
  unfold endSweep
  exact Vacant.modSweep (by split; exacts [h.aside (post_aside _ s), h]) _

theorem sweepPick_vacant (first : Bool) (h : Vacant x s) : Vacant x (sweepPick x first s).1 := by
  unfold sweepPick
  dsimp only
  split
  · exact takeHead_vacant _ (h.modSweep _)
  · exact scanSlots_vacant _ h

theorem takeNormal_vacant (h : Vacant x s) : Vacant x (takeNormal x s).1 := by
  unfold takeNormal
  exact takeHead_vacant _ (by split; exacts [h.modSweep _, h])

theorem serviceAfterEmptySweep_vacant (h : Vacant x s) : Vacant x (serviceAfterEmptySweep x s).1 := by
  unfold serviceAfterEmptySweep
  split
  · exact takeHead_vacant _ h
  split
  · exact takeNormal_vacant h
  split
  · exact h.idleWait
  · exact h

theorem freshSweep_vacant (h : Vacant x s) : Vacant x (freshSweep x s).1 := by
  have picked : Vacant x (sweepPick x true (startSweep x s)).1 := sweepPick_vacant true (h.modSweep _)
  unfold freshSweep
  split
  · next found => rwa [found] at picked
  · next found =>
    rw [found] at picked
    exact serviceAfterEmptySweep_vacant (endSweep_vacant picked)

theorem service_vacant (h : Vacant x s) : Vacant x (service x s).1 := by
  unfold service
  dsimp only
  split
  · exact freshSweep_vacant h
  split
  · exact takeHead_vacant _ h
  split
  · exact takeNormal_vacant h
  split
  · split
    · exact freshSweep_vacant h
    · exact h.idleWait
  · exact h

theorem pick_vacant (h : Vacant x s) : Vacant x (pick x s).1 := by
  have picked := sweepPick_vacant false h
  unfold pick
  split
  · split
    · next found => rwa [found] at picked
    · next found =>
      rw [found] at picked
      exact service_vacant (endSweep_vacant picked)
  · exact service_vacant h
  · exact h

/-- The work of a pick is accepted on the vacant line (R49). -/
theorem giveWork_linesLawful {picked : State × Option Work} (h : Vacant x picked.1) :
    linesLawful (giveWork x picked) := by
  unfold giveWork
  split
  · exact h.lawful
  dsimp only
  rw [exchangeTaken_marked]
  have marked := h.modSweep fun c =>
    { c with exchangeTaken := if (picked.1.engineAt x).config.mode = .repeating then true else c.exchangeTaken }
  split
  · next i kind _ =>
    have taken := marked.aside (takeCommit_aside i _)
    exact acceptExchange_linesLawful taken.lawful taken.serving taken.free (slotExchange_fresh _ i kind)
  · exact acceptExchange_linesLawful marked.lawful marked.serving marked.free (requestExchange_fresh _ _)

theorem pickAndGive_linesLawful (h : Vacant x s) : linesLawful (pickAndGive x s) := giveWork_linesLawful (pick_vacant h)

theorem sweepAndGive_linesLawful (h : Vacant x s) : linesLawful (sweepAndGive x s) :=
  giveWork_linesLawful (freshSweep_vacant h)

end

end Sys2Proof.Machine
end

section
/-! The laws of the lines through what happens on a line (R33, R46, R63, R86): the cycle, the guard time's expiry, the
receiver and the supervision expiry. -/

namespace Sys2Proof.Machine

/-! ### The cycle (R39, R42, R44) -/

section
variable {s : State} {x : Line}

/-- Only a RUNNING line acts on a cycle start, and only a free one starts a sweep at it (R39). -/
theorem cycleStartEffect_running {g : LineEngine} {c : SweepController} (acts : cycleStartEffect g c ≠ .discarded) :
    g.control = .running ∧ (cycleStartEffect g c = .started → g.exchange = none) := by
  by_cases off : g.control ≠ .running ∨ g.windDown = true
  · exact absurd (cycleStartEffect_off off) acts
  · obtain ⟨running, quiet⟩ := not_or.1 off
    have running := not_not.1 running
    refine ⟨running, fun started => ?_⟩
    rw [cycleStartEffect_on running (Bool.eq_false_iff.2 quiet)] at started
    cases flight : g.exchange with
    | none => rfl
    | some e => simp [flight] at started; split_ifs at started

theorem cycleStart_linesLawful (kind : CycleStartKind) (hs : linesLawful s) : linesLawful (cycleStart x kind s) := by
  have acts := cycleStartEffect_running (g := s.engineAt x) (c := s.sweepAt x)
  have held (running : (s.engineAt x).control = .running) :
      linesLawful (s.modSweep x fun c => { c with pendingStart := true }) :=
    hs.modSweep ((hs.line x).swept_running running)
  unfold cycleStart
  split
  · exact hs
  · next started =>
    obtain ⟨running, free⟩ := acts (by simp [started])
    exact sweepAndGive_linesLawful ⟨hs, running, free started⟩
  · next effect => exact held (acts (by simp [effect])).1
  · next effect =>
    exact ((held (acts (by simp [effect])).1).modEngine_viewed rfl).aside (post_aside _ _)
  · exact (hs.modEngine_viewed rfl).aside (post_aside _ _)

theorem cycleTimerExpiry_linesLawful (hs : linesLawful s) : linesLawful (cycleTimerExpiry x s) := by
  unfold cycleTimerExpiry
  split
  · exact cycleStart_linesLawful .timer (hs.modSweep_rests id)
  · exact hs

theorem syncFallingEdge_linesLawful (hs : linesLawful s) : linesLawful (syncFallingEdge x s) := by
  unfold syncFallingEdge
  split
  · exact cycleStart_linesLawful .sync hs
  · exact hs

/-! ### The guard time's expiry (R61, R63, R68) -/

/-- Behind a hand-over a line in service goes on (R68, R144, R145). -/
theorem goOn_linesLawful (kind : ExchangeKind) (hs : linesLawful s) (serving : (s.engineAt x).Serving)
    (free : (s.engineAt x).exchange = none) : linesLawful (goOn x kind s) := by
  unfold goOn
  dsimp only
  split
  · split
    · exact acceptExchange_linesLawful hs serving free (safeCallExchange_fresh s x)
    · exact enterLine_linesLawful _ hs
  · split
    · next running => exact pickAndGive_linesLawful ⟨hs, running, free⟩
    · exact enterLine_linesLawful _ hs
    · exact hs
    · exact hs

/-- GUARD ends in IDLE on a line with nothing in flight (R61). -/
theorem rested_linesLawful (hs : linesLawful s) (guarding : (s.engineAt x).exState = .guarding)
    (free : (s.engineAt x).exchange = none) :
    linesLawful (s.modEngine x fun g => { g with exState := .idle, span := none }) :=
  hs.modEngine ((hs.line x).moved rfl rfl (.inr rfl)
    ⟨(hs.line x).flight.undriven (by simp [guarding]), free⟩)

theorem guardExpiry_linesLawful (hs : linesLawful s) (guarding : (s.engineAt x).exState = .guarding) :
    linesLawful (guardExpiry x s) := by
  have law := hs.line x
  have serving := law.busy (by simp [guarding])
  cases flight : (s.engineAt x).exchange with
  | none =>
    have rested := rested_linesLawful hs guarding flight
    rw [guardExpiry_resting flight]
    split
    · next repeats => exact sweepAndGive_linesLawful ⟨rested, by simpa using repeats.2.1, by simpa using flight⟩
    · exact rested
  | some e =>
    cases closed : e.outcome with
    | none =>
      have unmade := law.flight.unmade guarding flight closed
      have within : e.Within := law.flight.within flight
      rw [guardExpiry_waiting flight closed]
      refine hs.modEngine (law.call serving ?_)
      split
      · exact Nat.one_pos
      · exact unmade ▸ within.2
    | some outcome =>
      by_cases due : retryDue s x e outcome = true
      · rw [guardExpiry_retry flight closed due]
        exact hs.modEngine (law.call serving (retryDue_iff.1 due).2.1)
      · rw [guardExpiry_ends flight closed due]
        refine goOn_linesLawful _ (handOver_linesLawful outcome e hs) ?_ ?_ <;> rw [handOver_engineAt]
        · exact serving
        · rfl

/-! ### Expiries of spans (R54, R59 to R61, R74) -/

/-- Behind an effect that landed ahead of the edges still waiting, they stand again (R74). -/
theorem aheadOfEdges_linesLawful (e : FallingEdge) {effect : State → State} (hs : linesLawful s)
    (acts : ∀ u, linesLawful u → (u.engineAt x).exState = (s.engineAt x).stateBefore e → linesLawful (effect u)) :
    linesLawful (aheadOfEdges x e effect s) := by
  have rejected : linesLawful ((s.setRx x .high).modEngine x fun g => g.rejected e) :=
    (hs.aside (setRx_aside x .high s)).modEngine ((hs.line x).rejected e)
  have landed := (acts _ rejected (by rw [engineAt_modEngine_self]; rfl)).aside (setRx_aside x (s.pins.rx.get x) _)
  unfold aheadOfEdges
  dsimp only
  split
  · exact landed
  split
  · exact landed.modEngine ((landed.line x).begun _ _ _)
  · exact landed

theorem spanReached_linesLawful {state : ExchangeState} {effect : State → State} (hs : linesLawful s)
    (acts : ∀ u, linesLawful u → (u.engineAt x).exState = state → linesLawful (effect u)) :
    linesLawful (spanReached x state effect s) := by
  cases edge : (s.engineAt x).edge with
  | none =>
    rw [spanReached_free x state effect s edge]
    split
    · next runs =>
      simp only [LineEngine.timing, Bool.and_eq_true, decide_eq_true_eq] at runs
      exact acts s hs runs.1
    · exact hs
  | some e =>
    simp only [spanReached, edge]
    split
    · next found =>
      split
      · exact aheadOfEdges_linesLawful e hs (found.1 ▸ acts)
      · exact hs.modEngine_viewed rfl
    · exact hs

theorem drainSilenceEnd_linesLawful (hs : linesLawful s) : linesLawful (drainSilenceEnd x s) :=
  spanReached_linesLawful hs fun u hu draining =>
    enterGuard_linesLawful hu ((hu.line x).busy (by simp [draining])) (.inr (.inl draining))

/-! ### The receiver (R53, R56 to R62, R74 to R76, R85) -/

/-- The end of a call releases the pin and goes to AWAITING, or for a broadcast to GUARD (R53). -/
theorem endCalling_linesLawful {e : Exchange} (hs : linesLawful s) (flight : (s.engineAt x).exchange = some e)
    (calling : (s.engineAt x).exState = .calling) : linesLawful (endCalling x e s) := by
  have law := hs.line x
  have serving := law.busy (by simp [calling])
  by_cases station : e.kind = .cyclic ∨ e.kind = .probe ∨ e.kind = .request
  · rw [endCalling_station station, modEngine_modEngine]
    exact hs.modEngine (law.moved rfl rfl (.inl serving) ⟨⟨rfl, rfl⟩, e, flight, law.flight.within flight⟩)
  · have broadcast : e.kind = .broadcast ∨ e.kind = .safeCall := by
      cases kind : e.kind <;> simp [kind] at station ⊢
    rw [endCalling_broadcast broadcast, closeAttempt_eq, modEngine_modEngine]
    refine hs.modEngine (law.moved rfl rfl (.inl serving) ?_)
    exact LineEngine.flightLawful_closed (g := (s.engineAt x).released (s.pins.rx.get x)) ⟨rfl, rfl⟩
      (fun _ => law.flight.within) .good _

theorem callFrameSent_linesLawful (hs : linesLawful s) : linesLawful (callFrameSent x s) := by
  unfold callFrameSent
  dsimp only
  split
  · next flight =>
    split
    · next calling =>
      split
      · exact endTail_linesLawful hs
      · exact endCalling_linesLawful hs flight calling
    · exact hs
  · exact hs

theorem abortTailEnd_linesLawful (hs : linesLawful s) : linesLawful (abortTailEnd x s) := by
  unfold abortTailEnd
  dsimp only
  split
  · exact endTail_linesLawful hs
  · exact hs

theorem startBitArrival_linesLawful (hs : linesLawful s) : linesLawful (startBitArrival x s) := by
  have low := hs.aside (setRx_aside x .low s)
  unfold startBitArrival
  dsimp only
  split
  · split
    · exact low.modEngine (low.line x).fallingEdge
    · exact low
  · exact hs

theorem pinReturnsHigh_linesLawful (hs : linesLawful s) : linesLawful (pinReturnsHigh x s) := by
  by_cases rises : s.pins.rx.get x = .low ∨ (s.engineAt x).insideCharacter = true
  · rw [pinReturnsHigh_rises rises]
    exact (hs.aside (setRx_aside x .high s)).modEngine_viewed rfl
  · have kept : pinReturnsHigh x s = s := if_neg rises
    rwa [kept]

/-- A character's end is nothing that the laws read (R75). -/
theorem endCharacter_linesLawful (data : Byte) (mark stop : Bool) (hs : linesLawful s) :
    linesLawful (endCharacter x data mark stop s) := by
  unfold endCharacter
  split
  · exact hs.modEngine_viewed rfl
  · exact (hs.aside (setRx_aside x _ s)).modEngine_viewed rfl

@[simp] theorem endCharacter_exState (data : Byte) (mark stop : Bool) (s : State) :
    ((endCharacter x data mark stop s).engineAt x).exState = (s.engineAt x).exState := by
  rw [(endCharacter_frame x data mark stop s).2]

theorem endCharacter_serving (data : Byte) (mark stop : Bool) (serving : (s.engineAt x).Serving) :
    ((endCharacter x data mark stop s).engineAt x).Serving := by
  rw [(endCharacter_frame x data mark stop s).2]
  exact serving

theorem answerCharacter_linesLawful (e : Exchange) (data : Byte) (stop : Bool) (hs : linesLawful s)
    (receiving : (s.engineAt x).exState = .receiving) : linesLawful (answerCharacter x e data stop s) := by
  have drained (outcome : ExchangeResult) : linesLawful (enterDraining x outcome s) :=
    hs.modEngine ((hs.line x).drain receiving outcome _)
  unfold answerCharacter
  dsimp only
  split
  · exact drained _
  split
  · exact drained _
  split
  · exact closeAttempt_linesLawful _ (hs.modEngine_viewed rfl) (.inr (by rwa [engineAt_modEngine_self]))
  · exact hs.modEngine_viewed rfl

/-- A stray is heard in IDLE or GUARD, on a line in service (R62). -/
theorem strayCharacter_linesLawful (hs : linesLawful s) (serving : (s.engineAt x).Serving)
    (quiet : (s.engineAt x).exState = .idle ∨ (s.engineAt x).exState = .guarding) :
    linesLawful (strayCharacter x s) := by
  rw [strayCharacter_eq]
  exact hs.modEngine (LineLaw.guard (g := { s.engineAt x with
      stray := if (s.engineAt x).stray < 255 then (s.engineAt x).stray + 1 else (s.engineAt x).stray })
    ((hs.line x).viewed rfl) serving (quiet.imp_right .inr) _)

theorem characterReceived_linesLawful (data : Byte) (mark stop : Bool) (hs : linesLawful s) :
    linesLawful (characterReceived x data mark stop s) := by
  have ended := endCharacter_linesLawful (x := x) data mark stop hs
  unfold characterReceived
  dsimp only
  split
  · next heard =>
    have serving := endCharacter_serving data mark stop (LineEngine.serving_of_receiverOn heard.1)
    split
    · exact endInto_linesLawful _ _ ended
    split
    · next receiving _ => exact answerCharacter_linesLawful _ data stop ended (by rwa [endCharacter_exState])
    · exact ended.modEngine_viewed rfl
    · next idle => exact strayCharacter_linesLawful ended serving (.inl (by rwa [endCharacter_exState]))
    · next guarding => exact strayCharacter_linesLawful ended serving (.inr (by rwa [endCharacter_exState]))
    all_goals exact ended
  · exact hs

theorem breakDetected_linesLawful (hs : linesLawful s) : linesLawful (breakDetected x s) := by
  unfold breakDetected
  split
  · exact endInto_linesLawful _ _ hs
  · exact hs

end

/-! ### The supervision expiry (R143 to R145) -/

section
variable {s : State} {x : Line}

/-- The expiry sends a safe call on a STOPPED line, or on a line in service with no exchange in flight (R143, R145). -/
theorem expiryAction_sendSafeCall {g : LineEngine} (sends : expiryAction g = .sendSafeCall) :
    g.control ≠ .halted ∧ (g.control = .stopped ∨ g.exchange = none) := by
  unfold expiryAction at sends
  cases control : g.control with
  | stopped => simp
  | halted => simp [control] at sends
  | running | stopping =>
    cases flight : g.exchange with
    | none => simp
    | some e => cases abort : g.abortPending <;> simp [control, flight, abort] at sends

/-- The expiry's effect on a line that does not wind down yet: a STOPPED line is IDLE then, with nothing in flight. -/
theorem expiryEffect_linesLawful (hs : linesLawful s) (expired : s.supervision.state = .expired)
    (quiet : (s.engineAt x).windDown = false) : linesLawful (expiryEffect x s) := by
  have law := hs.line x
  have winding : linesLawful (s.modEngine x fun g => { g with windDown := true }) := hs.modEngine (law.winding expired)
  unfold expiryEffect
  split
  · exact hs
  · exact winding
  · next sends =>
    obtain ⟨alive, free⟩ := expiryAction_sendSafeCall sends
    have free : (s.engineAt x).exchange = none := free.elim (fun stopped =>
      law.flight.free (law.serving.resolve_left fun serving => by simp [serving.2 stopped] at quiet)) id
    refine acceptExchange_linesLawful winding ?_ ?_ (safeCallExchange_fresh _ x) <;> rw [engineAt_modEngine_self]
    · exact ⟨alive, fun _ => rfl⟩
    · exact free
  · exact enterQuietly_linesLawful _ hs

/-- The expiry's effect on one line leaves the other line and the Supervision Timer. -/
theorem expiryEffect_frame (x : Line) (s : State) :
    (expiryEffect x s).supervision.state = s.supervision.state
      ∧ ∀ y, y ≠ x → (expiryEffect x s).engineAt y = s.engineAt y := by
  have changed (f : LineEngine → LineEngine) (y : Line) (other : y ≠ x) :
      (s.modEngine x f).engineAt y = s.engineAt y := by rw [engineAt_modEngine, if_neg other]
  unfold expiryEffect
  split
  · exact ⟨rfl, fun _ _ => rfl⟩
  · exact ⟨rfl, changed _⟩
  · exact ⟨rfl, fun y other => (acceptExchange_engineAt_ne _ _ other).trans (changed _ y other)⟩
  · have swapped := swapCommits_aside (pendingCommits s x)
      ((s.modEngine x fun g => g.entered (.halted .supervision)).modSweep x SweepController.abandoned)
    exact ⟨swapped.supervision, fun y other => (swapped.engineAt y).trans (changed (fun g => g.entered _) y other)⟩

theorem supervisionExpiry_linesLawful (hs : linesLawful s) : linesLawful (supervisionExpiry s) := by
  unfold supervisionExpiry
  split
  · next due =>
    have quiet (x : Line) : (s.engineAt x).windDown = false :=
      Bool.eq_false_iff.2 fun winding => by simp [(hs.line x).windDown winding] at due
    dsimp only
    generalize posted : post (supervisionExpiredRecord s.supervision.period)
        (setPending .supervision { s with supervision := { s.supervision with state := .expired, countdown := 0 } }) = u
    have engines (x : Line) : u.engineAt x = s.engineAt x := by rw [← posted]; rfl
    have expired : u.supervision.state = .expired := by rw [← posted]; rfl
    have hu : linesLawful u := linesLawful_iff.2 fun x => by
      rw [← posted]
      exact (hs.line x).supervised fun _ => rfl
    split
    · obtain ⟨kept, other⟩ := expiryEffect_frame .a u
      have first := expiryEffect_linesLawful (x := .a) hu expired (by rw [engines, quiet])
      have both := expiryEffect_linesLawful (x := .b) first (kept.trans expired)
        (by rw [other .b (by decide), engines, quiet])
      exact (both.aside (interleave_aside _ _ _)).aside (postAll_aside _ _)
    · exact hu
  · exact hs

end

end Sys2Proof.Machine
end

section
/-! The laws of the lines are kept by the commands, the window, the resets and a microsecond, and so by every step (R33,
R46, R63, R86, R141). -/

namespace Sys2Proof.Machine

/-! ### Commands aside from the lines -/

section
variable (p : TakenCommand) (s : State)

theorem defineStation_aside : Aside s (defineStation p s).state := by
  unfold defineStation
  dsimp only
  split
  · exact .refl s
  split
  · exact .refl s
  split
  · exact .refl s
  · exact ite_aside ⟨rfl, rfl, rfl⟩ ⟨rfl, rfl, rfl⟩

theorem dropStation_aside : Aside s (dropStation p s).state := by
  unfold dropStation
  dsimp only
  split
  · exact .refl s
  split
  · exact .refl s
  split
  · exact .refl s
  split
  · exact .refl s
  split
  · exact .refl s
  · exact ite_aside ⟨rfl, rfl, rfl⟩ ⟨rfl, rfl, rfl⟩

theorem enableStation_aside : Aside s (enableStation p s).state := by
  unfold enableStation
  dsimp only
  split
  · exact .refl s
  split
  · exact .refl s
  split
  · exact .refl s
  · exact (setStation_aside _ _ s).trans (post_aside _ _)

theorem disableStation_aside : Aside s (disableStation p s).state := by
  unfold disableStation
  dsimp only
  split
  · exact .refl s
  split
  · exact .refl s
  · have moved (t : State) (x : Line) (i : Fin 32) : Aside t (removeQueuedFor t x i) := ⟨rfl, rfl, rfl⟩
    refine .trans (.trans (ite_aside (.refl s) ?_) (moved _ _ _)) (completeAllQueued_aside _ _ _)
    exact (setStation_aside _ _ s).trans (post_aside _ _)

theorem setStationLimits_aside : Aside s (setStationLimits p s).state := by
  unfold setStationLimits
  dsimp only
  split
  · exact .refl s
  split
  · exact .refl s
  · exact ite_aside ((setStation_aside _ _ s).trans (post_aside _ _)) (setStation_aside _ _ s)

theorem enqueue_aside (d : Fin 16) (t : Target) (f tag : Byte) (u : Urgency) (n : Nat) :
    Aside s (enqueue d t f tag u n s) := by
  unfold enqueue
  exact ⟨by simp, by simp, by simp⟩

theorem cancelRequest_aside : Aside s (cancelRequest p s).state := by
  unfold cancelRequest
  dsimp only
  split
  · exact .refl s
  split
  · exact .refl s
  · exact .refl s
  · exact .refl s
  · refine .trans ?_ (finishDescriptor_aside _ _ _ _ _)
    exact ⟨by simp [leaveFifo], by simp [leaveFifo], by simp [leaveFifo]⟩
  split
  · exact .refl s
  · exact ⟨rfl, rfl, rfl⟩

theorem flushRequests_aside : Aside s (flushRequests p s).state := by
  have emptied (x : Line) (which : Nat) : Aside s (emptyFifos x which s) := by
    unfold emptyFifos
    dsimp only
    split <;> split <;> exact ⟨rfl, rfl, rfl⟩
  unfold flushRequests
  dsimp only
  split
  · exact .refl s
  · exact (emptied _ _).trans (completeAllQueued_aside _ _ _)

theorem collectRequest_aside : Aside s (collectRequest p s).state := by
  unfold collectRequest
  dsimp only
  repeat' split
  all_goals exact ⟨rfl, rfl, rfl⟩

theorem commitCall_aside : Aside s (commitCall p s).state := by
  unfold commitCall
  dsimp only
  repeat' split
  all_goals exact ⟨rfl, rfl, rfl⟩

theorem openNewView_aside (v : OpenView) : Aside s (openNewView v s) := by
  have reserved (t : State) : Aside t (reserveDescriptor v t) := by
    unfold reserveDescriptor
    split
    · exact ite_aside ⟨rfl, rfl, rfl⟩ (.refl t)
    · exact .refl t
  exact ((closeOpenView_aside s).trans (reserved _)).trans ⟨rfl, rfl, rfl⟩

theorem openView_aside : Aside s (openView p s).state := by
  unfold openView
  split
  · exact .refl s
  split
  · exact .refl s
  · exact openNewView_aside s _

theorem unknownCommand_aside : Aside s (unknownCommand s) := by
  unfold unknownCommand
  split
  · exact ite_aside (.refl s) (finish_aside (refuse s .unknownCommand 0))
  · exact .refl s

end

/-! ### Commands that act on a line -/

section
variable {s : State} (p : TakenCommand)

theorem completeCommand_linesLawful (code : Byte) {body : TakenCommand → State → Completion} (hs : linesLawful s)
    (h : ∀ p, linesLawful (body p s).state) : linesLawful (completeCommand code body s) := by
  unfold completeCommand
  split
  · exact (h _).aside (finish_aside _)
  · exact hs

theorem loadSweep_linesLawful (hs : linesLawful s) : linesLawful (loadSweep p s).state := by
  unfold loadSweep
  dsimp only
  split
  · exact hs
  split
  · exact hs
  split
  · exact hs
  split <;> exact hs.modSweep_rests id

theorem setPeriod_linesLawful (hs : linesLawful s) : linesLawful (setPeriod p s).state := by
  unfold setPeriod
  dsimp only
  split
  · exact hs
  split <;> exact hs.modSweep_rests id

theorem setLine_linesLawful (hs : linesLawful s) : linesLawful (setLine p s).state := by
  unfold setLine
  dsimp only
  split
  · exact hs
  split
  · exact hs
  · have configured := hs.modEngine_viewed (x := lineOfNat (fieldOf p.param0 8 2))
      (f := fun g => { g.clearCounters with config := configOf p, configured := true }) rfl
    exact configured.modSweep_rests fun ⟨state, start, _, mark⟩ => ⟨state, start, rfl, mark⟩

/-- A line that is started is RUNNING in GUARD with nothing in flight (R131). -/
theorem startedLine_vacant {x : Line} (hs : linesLawful s) (off : (s.engineAt x).inService = false) :
    Vacant x (startedLine x s) := by
  have law := hs.line x
  have idle := law.idle off
  have free := law.flight.free idle
  unfold startedLine
  dsimp only
  refine Vacant.idleWait (Vacant.modSweep ⟨hs.modEngine ?_, ?_, ?_⟩ _)
  · refine ⟨?_, .inr idle, fun off => by simp at off, law.windDown⟩
    simp only [LineEngine.flightLawful, idle]
    exact ⟨law.flight.undriven (by simp [idle]), trivial⟩
  · rw [engineAt_modEngine_self]
  · rw [engineAt_modEngine_self]

theorem startLine_linesLawful (hs : linesLawful s) : linesLawful (startLine p s).state := by
  unfold startLine
  dsimp only
  split
  · exact hs
  split
  · exact hs
  next off =>
  have started := startedLine_vacant hs (Bool.eq_false_iff.2 off)
  split
  · exact hs
  split
  · exact hs
  dsimp only
  split
  · exact pickAndGive_linesLawful started
  · exact sweepAndGive_linesLawful started

theorem stopLine_linesLawful (hs : linesLawful s) : linesLawful (stopLine p s).state := by
  unfold stopLine
  dsimp only
  split
  · exact hs
  split
  · exact hs
  split
  · exact enterLine_linesLawful .stopped hs
  · exact hs.modEngine ((hs.line _).stopping _)

theorem abortLine_linesLawful (hs : linesLawful s) : linesLawful (abortLine p s).state := by
  unfold abortLine
  dsimp only
  split
  · exact hs
  split
  · exact hs
  split
  · exact hs
  split
  · exact hs.modEngine ((hs.line _).stopping true)
  · exact endInto_linesLawful _ _ hs

theorem sweepNow_linesLawful (hs : linesLawful s) : linesLawful (sweepNow p s).state := by
  unfold sweepNow
  dsimp only
  split
  · exact hs
  split
  · exact hs
  split
  · exact hs
  · exact cycleStart_linesLawful .sweepNow hs

/-- A posted request causes a pick on a RUNNING line with nothing in flight alone (R38). -/
theorem postCausesPick_vacant {x : Line} {u : Urgency} (hs : linesLawful s) (picks : postCausesPick s x u = true) :
    Vacant x s := by
  simp only [postCausesPick, Bool.and_eq_true, decide_eq_true_eq, Option.isNone_iff_eq_none] at picks
  obtain ⟨⟨⟨⟨⟨_, running⟩, _⟩, _⟩, free⟩, _⟩ := picks
  exact ⟨hs, running, free⟩

theorem postRequest_linesLawful (hs : linesLawful s) : linesLawful (postRequest p s).state := by
  unfold postRequest
  dsimp only
  split
  · exact hs
  split
  · exact hs
  dsimp only
  split
  · next picks => exact pickAndGive_linesLawful ((postCausesPick_vacant hs picks).aside (enqueue_aside s _ _ _ _ _ _))
  · exact hs.aside (enqueue_aside s _ _ _ _ _ _)

/-- SET_SUPERVISION is refused while a line winds down (R141). -/
theorem windDownLines_eq_zero {s : State} : windDownLines s = 0 ↔ ∀ x, (s.engineAt x).windDown = false := by
  refine ⟨fun none x => ?_, fun none => by simp [windDownLines, none]⟩
  unfold windDownLines at none
  cases x <;> (by_contra winding; simp_all)

theorem setSupervision_linesLawful (hs : linesLawful s) : linesLawful (setSupervision p s).state := by
  unfold setSupervision
  dsimp only
  split
  · exact hs
  split
  · exact hs
  next quiet =>
  have quiet := windDownLines_eq_zero.1 (not_not.1 quiet)
  exact linesLawful_iff.2 fun x => (hs.line x).supervised fun winding => nomatch (quiet x).symm.trans winding

end

/-! ### The window -/

section
variable {s : State}

theorem takeCommand_linesLawful (cmd : Word) (hs : linesLawful s) : linesLawful (takeCommand cmd s) := by
  unfold takeCommand
  dsimp only
  split
  · exact endQuietly_linesLawful (endQuietly_linesLawful (hs.aside ⟨rfl, rfl, rfl⟩))
  · exact hs.aside ⟨rfl, rfl, rfl⟩

theorem cmdWrite_linesLawful (lanes : Lanes) (data : Word) (hs : linesLawful s) :
    linesLawful (cmdWrite lanes data s) := by
  unfold cmdWrite
  dsimp only
  split
  · exact takeCommand_linesLawful _ hs
  · exact takeCommand_linesLawful _ hs
  · exact hs.aside ⟨rfl, rfl, rfl⟩

theorem intClaim_aside (lanes : Lanes) (s : State) : Aside s (intClaim lanes s) := by
  unfold intClaim
  dsimp only
  split <;> exact ⟨rfl, rfl, rfl⟩

theorem intEos_aside (s : State) : Aside s (intEos s) := by
  unfold intEos
  split <;> exact ⟨rfl, rfl, rfl⟩

theorem intSvcWrite_aside (lanes : Lanes) (data : Word) (s : State) : Aside s (intSvcWrite lanes data s) :=
  ite_aside (ite_aside ⟨rfl, rfl, rfl⟩ ⟨rfl, rfl, rfl⟩) (.refl s)

theorem intStatusRead_aside (lanes : Lanes) (s : State) : Aside s (intStatusRead lanes s) :=
  ite_aside ⟨rfl, rfl, rfl⟩ ⟨rfl, rfl, rfl⟩

theorem intPendWrite_aside (lanes : Lanes) (data : Word) (s : State) : Aside s (intPendWrite lanes data s) :=
  ite_aside ⟨rfl, rfl, rfl⟩ (.refl s)

/-- A refresh loads the countdown and leaves the timer's state (R142). -/
theorem supvRefresh_aside (s : State) : Aside s (supvRefresh s) := ite_aside ⟨rfl, rfl, rfl⟩ (.refl s)

theorem writePortByte_aside (offset b : Byte) (s : State) : Aside s (writePortByte offset b s) := by
  unfold writePortByte
  split <;> exact ⟨rfl, rfl, rfl⟩

theorem driveData_aside (lanes : Lanes) (value : Word) (s : State) : Aside s (driveData lanes value s) :=
  ⟨rfl, rfl, rfl⟩

theorem advanceOffset_aside (lanes : Lanes) (s : State) : Aside s (advanceOffset lanes s) :=
  ite_aside ⟨rfl, rfl, rfl⟩ (.refl s)

theorem dataRead_aside (lanes : Lanes) (s : State) : Aside s (dataRead lanes s) :=
  ite_aside
    (((driveData_aside lanes (aheadWord lanes (currentAhead s)) s).trans (advanceOffset_aside lanes _)).trans
      ⟨rfl, rfl, rfl⟩)
    (driveData_aside lanes 0 s)

theorem dataWrite_aside (lanes : Lanes) (data : Word) (s : State) : Aside s (dataWrite lanes data s) := by
  refine ite_aside (.trans (.trans ?_ (advanceOffset_aside lanes _)) ⟨rfl, rfl, rfl⟩) (.refl s)
  cases lanes with
  | word => exact (writePortByte_aside _ _ s).trans (writePortByte_aside _ _ _)
  | low | high => exact writePortByte_aside _ _ s

theorem viewOffsetWrite_aside (lanes : Lanes) (data : Word) (s : State) : Aside s (viewOffsetWrite lanes data s) :=
  ite_aside ⟨rfl, rfl, rfl⟩ (.refl s)

theorem windowWrite_linesLawful (address : WindowAddress) (lanes : Lanes) (data : Word) (hs : linesLawful s) :
    linesLawful (windowWrite address lanes data s) := by
  unfold windowWrite
  cases writableAt address with
  | none => exact hs
  | some register =>
    cases register with
    | cmd => exact cmdWrite_linesLawful lanes data hs
    | param0 | param1 | param2 | param3 | evtAdvance | intLevels0 | intLevels1 => exact hs.aside ⟨rfl, rfl, rfl⟩
    | viewOffset => exact hs.aside (viewOffsetWrite_aside lanes data s)
    | data => exact hs.aside (dataWrite_aside lanes data s)
    | intEos => exact hs.aside (intEos_aside s)
    | intSvc => exact hs.aside (intSvcWrite_aside lanes data s)
    | intPend => exact hs.aside (intPendWrite_aside lanes data s)
    | supvRefresh => exact hs.aside (supvRefresh_aside s)

/-- A guarded update, as every strobe through the window is one. -/
theorem ite_linesLawful {c : Prop} [Decidable c] {t u : State} (ht : linesLawful t) (hu : linesLawful u) :
    linesLawful (if c then t else u) := by
  split
  · exact ht
  · exact hu

/-- A guarded update aside from the lines. -/
theorem linesLawful.ite_aside (hs : linesLawful s) {c : Prop} [Decidable c] {t : State} (h : Aside s t) :
    linesLawful (if c then t else s) := ite_linesLawful (hs.aside h) hs

end

/-! ### Resets, time, and the step -/

/-- A reset's blocks are those of `State.reset` (R186, R187). -/
theorem resetBlocks_linesLawful (s : State) : linesLawful (resetBlocks s) := linesLawful_reset.aside ⟨rfl, rfl, rfl⟩

theorem softReset_linesLawful {s : State} (hs : linesLawful s) : linesLawful (softReset s) :=
  ite_linesLawful ((resetBlocks_linesLawful s).aside ⟨rfl, rfl, rfl⟩) hs

/-- A microsecond counts, and moves no timer's state (R142). -/
theorem SupervisionTimer.tick_state (t : SupervisionTimer) : t.tick.state = t.state := by
  unfold SupervisionTimer.tick
  split
  · split <;> rfl
  · rfl
  · rfl

theorem tick_linesLawful {s : State} (hs : linesLawful s) : linesLawful (tick s) :=
  linesLawful_iff.2 fun x => by
    rw [tick_engineAt, tick_sweepAt, tick_supervision, SupervisionTimer.tick_state]
    exact (hs.line x).tick _

/-- Every command keeps the laws of the lines. -/
theorem exec_linesLawful (c : Instr) {s : State} (hs : linesLawful s) : ∃ t, exec c s = .next t ∧ linesLawful t := by
  have aside (code : Byte) {body : TakenCommand → State → Completion} (h : ∀ p, Aside s (body p s).state) :
      linesLawful (completeCommand code body s) := completeCommand_linesLawful code hs fun p => hs.aside (h p)
  have acts (code : Byte) {body : TakenCommand → State → Completion} (h : ∀ p, linesLawful (body p s).state) :
      linesLawful (completeCommand code body s) := completeCommand_linesLawful code hs h
  cases c with
  | defineStation => exact ⟨_, rfl, aside _ (defineStation_aside · s)⟩
  | dropStation => exact ⟨_, rfl, aside _ (dropStation_aside · s)⟩
  | enableStation => exact ⟨_, rfl, aside _ (enableStation_aside · s)⟩
  | disableStation => exact ⟨_, rfl, aside _ (disableStation_aside · s)⟩
  | setStationLimits => exact ⟨_, rfl, aside _ (setStationLimits_aside · s)⟩
  | loadSweep => exact ⟨_, rfl, acts _ (loadSweep_linesLawful · hs)⟩
  | setLine => exact ⟨_, rfl, acts _ (setLine_linesLawful · hs)⟩
  | setPeriod => exact ⟨_, rfl, acts _ (setPeriod_linesLawful · hs)⟩
  | startLine => exact ⟨_, rfl, acts _ (startLine_linesLawful · hs)⟩
  | stopLine => exact ⟨_, rfl, acts _ (stopLine_linesLawful · hs)⟩
  | abortLine => exact ⟨_, rfl, acts _ (abortLine_linesLawful · hs)⟩
  | sweepNow => exact ⟨_, rfl, acts _ (sweepNow_linesLawful · hs)⟩
  | postRequest => exact ⟨_, rfl, acts _ (postRequest_linesLawful · hs)⟩
  | cancelRequest => exact ⟨_, rfl, aside _ (cancelRequest_aside · s)⟩
  | flushRequests => exact ⟨_, rfl, aside _ (flushRequests_aside · s)⟩
  | collectRequest => exact ⟨_, rfl, aside _ (collectRequest_aside · s)⟩
  | commitCall => exact ⟨_, rfl, aside _ (commitCall_aside · s)⟩
  | openView => exact ⟨_, rfl, aside _ (openView_aside · s)⟩
  | closeView => exact ⟨_, rfl, aside _ fun _ => closeOpenView_aside s⟩
  | setSupervision => exact ⟨_, rfl, acts _ (setSupervision_linesLawful · hs)⟩
  | softReset => exact ⟨_, rfl, softReset_linesLawful hs⟩
  | unknownCommand => exact ⟨_, rfl, hs.aside (unknownCommand_aside s)⟩
  | commandCollision lanes data => exact ⟨_, rfl, ite_linesLawful (cmdWrite_linesLawful lanes data hs) hs⟩
  | commandTake lanes data => exact ⟨_, rfl, ite_linesLawful (cmdWrite_linesLawful lanes data hs) hs⟩
  | evtAdvance _ _ => exact ⟨_, rfl, hs.ite_aside ⟨rfl, rfl, rfl⟩⟩
  | intClaim lanes => exact ⟨_, rfl, hs.aside (ite_aside (intClaim_aside lanes s) (driveData_aside lanes 0 s))⟩
  | intEos _ _ => exact ⟨_, rfl, hs.ite_aside (intEos_aside s)⟩
  | intSvcWrite lanes data => exact ⟨_, rfl, hs.ite_aside (intSvcWrite_aside lanes data s)⟩
  | intStatusRead lanes =>
    exact ⟨_, rfl, hs.aside (ite_aside (intStatusRead_aside lanes s) (driveData_aside lanes 0 s))⟩
  | intPendWrite lanes data => exact ⟨_, rfl, hs.ite_aside (intPendWrite_aside lanes data s)⟩
  | intLevelsWrite _ _ _ => exact ⟨_, rfl, hs.ite_aside ⟨rfl, rfl, rfl⟩⟩
  | supvRefresh _ _ => exact ⟨_, rfl, hs.ite_aside (supvRefresh_aside s)⟩
  | dataRead lanes => exact ⟨_, rfl, hs.aside (ite_aside (dataRead_aside lanes s) (driveData_aside lanes 0 s))⟩
  | dataWrite lanes data => exact ⟨_, rfl, hs.ite_aside (dataWrite_aside lanes data s)⟩
  | viewOffsetWrite lanes data => exact ⟨_, rfl, hs.ite_aside (viewOffsetWrite_aside lanes data s)⟩
  | registerWrite address lanes data =>
    exact ⟨_, rfl, ite_linesLawful (windowWrite_linesLawful address lanes data hs) hs⟩
  | pinResetAssert => exact ⟨_, rfl, ite_linesLawful (resetBlocks_linesLawful _) hs⟩
  | pinResetRelease => exact ⟨_, rfl, ite_linesLawful (resetBlocks_linesLawful _) hs⟩
  | readyAfterReset => exact ⟨_, rfl, hs.ite_aside ⟨rfl, rfl, rfl⟩⟩
  | syncFallingEdge x => exact ⟨_, rfl, syncFallingEdge_linesLawful hs⟩
  | characterReceived x data mark stop => exact ⟨_, rfl, characterReceived_linesLawful data mark stop hs⟩
  | callFrameSent x => exact ⟨_, rfl, callFrameSent_linesLawful hs⟩
  | abortTailEnd x => exact ⟨_, rfl, abortTailEnd_linesLawful hs⟩
  | answerTimeout x => exact ⟨_, rfl, spanReached_linesLawful hs fun _ hu h => closeAttempt_linesLawful _ hu (.inl h)⟩
  | gapLimitExpiry x => exact ⟨_, rfl, spanReached_linesLawful hs fun _ hu h => closeAttempt_linesLawful _ hu (.inr h)⟩
  | drainSilenceEnd x => exact ⟨_, rfl, drainSilenceEnd_linesLawful hs⟩
  | guardTimeExpiry x => exact ⟨_, rfl, spanReached_linesLawful hs fun _ => guardExpiry_linesLawful⟩
  | breakDetected x => exact ⟨_, rfl, breakDetected_linesLawful hs⟩
  | cycleTimerExpiry x => exact ⟨_, rfl, cycleTimerExpiry_linesLawful hs⟩
  | supervisionExpiry => exact ⟨_, rfl, supervisionExpiry_linesLawful hs⟩
  | startBitArrival x => exact ⟨_, rfl, startBitArrival_linesLawful hs⟩
  | pinReturnsHigh x => exact ⟨_, rfl, pinReturnsHigh_linesLawful hs⟩

/-- Settles O13: the laws do not read the queue, and every command and every microsecond keeps them. -/
theorem lineLawsKept : Obligations.LineLawsKept := by
  intro s t h hs
  obtain ⟨c, rest, _, ran⟩ | ⟨_, rfl⟩ := step_cases h
  · obtain ⟨u, next, lawful⟩ := exec_linesLawful c (s := { s with pending := rest }) (hs.aside ⟨rfl, rfl, rfl⟩)
    cases ran.symm.trans next
    exact lawful
  · exact tick_linesLawful hs

end Sys2Proof.Machine
end

section
/-! The hand-overs of the Data Store: a GOOD cyclic answer is published or held (R98 to R100), and COMMIT_CALL exchanges
the call halves or sets commit pending (R91 to R93). -/

namespace Sys2Proof.Machine

/-! ### The answer's halves (R98 to R100) -/

section
variable (i : Fin 32) (b : ReceiveBuffer) (stamp : Word) (s : State)

/-- A publication exchanges the answer halves under the next sequence (R98, R100). -/
theorem publishAnswer_answerPairAt :
    (publishAnswer i s).answerPairAt i = (s.answerPairAt i).publish ((s.stationAt i).answerSequence + 1) := by
  simp [publishAnswer]

theorem publishAnswer_answerPairAt_ne {j : Fin 32} (other : j ≠ i) :
    (publishAnswer i s).answerPairAt j = s.answerPairAt j := by
  simp [publishAnswer, answerPairAt_setAnswerPair, other]

theorem publishAnswer_stationAt :
    (publishAnswer i s).stationAt i =
      { s.stationAt i with answerSequence := (s.stationAt i).answerSequence + 1, publishPending := false } := by
  simp [publishAnswer]

/-- The state with the answer in the station's spare half, before it is published or held (R98 step 1). -/
def withStoredAnswer : State :=
  s.setAnswerPair i ((s.answerPairAt i).withSpare (storedAnswer (s.answerPairAt i).spare b stamp))

@[simp] theorem withStoredAnswer_answerPairAt :
    (withStoredAnswer i b stamp s).answerPairAt i =
      (s.answerPairAt i).withSpare (storedAnswer (s.answerPairAt i).spare b stamp) :=
  answerPairAt_setAnswerPair_self s i _

theorem withStoredAnswer_answerPairAt_ne {j : Fin 32} (other : j ≠ i) :
    (withStoredAnswer i b stamp s).answerPairAt j = s.answerPairAt j :=
  (answerPairAt_setAnswerPair s i j _).trans (if_neg other)

@[simp] theorem withStoredAnswer_stationAt (j : Fin 32) :
    (withStoredAnswer i b stamp s).stationAt j = s.stationAt j := rfl

variable {i s}

/-- With no view on the station's answer the stored half is published (R98). -/
theorem storeAnswer_unviewed (unviewed : s.port.view ≠ some (.stationAnswer i)) :
    storeAnswer i b stamp s = publishAnswer i (withStoredAnswer i b stamp s) := if_neg unviewed

/-- Behind a view on the station's answer the stored half is held; only its first holding sets publish pending (R99). -/
theorem storeAnswer_viewed (viewed : s.port.view = some (.stationAnswer i)) :
    storeAnswer i b stamp s =
      (withStoredAnswer i b stamp s).setStation i
        (if (s.stationAt i).publishPending = true then
          { s.stationAt i with overtakenCount := saturatingSucc 255 (s.stationAt i).overtakenCount }
        else { s.stationAt i with publishPending := true }) :=
  (if_pos viewed).trans (apply_ite _ _ _ _).symm

/-- A GOOD answer touches no other station's halves. -/
theorem storeAnswer_answerPairAt_ne {j : Fin 32} (other : j ≠ i) :
    (storeAnswer i b stamp s).answerPairAt j = s.answerPairAt j := by
  by_cases viewed : s.port.view = some (.stationAnswer i)
  · rw [storeAnswer_viewed b stamp viewed, setStation_answerPairAt, withStoredAnswer_answerPairAt_ne i b stamp s other]
  · rw [storeAnswer_unviewed b stamp viewed, publishAnswer_answerPairAt_ne i _ other,
      withStoredAnswer_answerPairAt_ne i b stamp s other]

end

/-- Settles O46: published or held by the view, and of a held answer whether one was pending. -/
theorem goodAnswersArePublishedOrHeld : Obligations.GoodAnswersArePublishedOrHeld := by
  intro s i b stamp
  dsimp only
  have bytes := overwriteBytes_get (s.answerPairAt i).spare.bytes b.payload b.declared.toNat
  refine ⟨fun unviewed => ?_, fun viewed => ?_, fun j other =>
    ⟨storeAnswer_answerPairAt_ne b stamp other, storeAnswer_stationAt_ne b stamp s other⟩⟩
  · rw [storeAnswer_unviewed b stamp unviewed, publishAnswer_answerPairAt, publishAnswer_stationAt,
      withStoredAnswer_answerPairAt, withStoredAnswer_stationAt, AnswerPair.published_publish, AnswerPair.spare_publish,
      AnswerPair.spare_withSpare, AnswerPair.published_withSpare]
    exact ⟨⟨rfl, rfl, rfl, rfl, bytes⟩, rfl, rfl, rfl⟩
  · rw [storeAnswer_viewed b stamp viewed, setStation_answerPairAt, stationAt_setStation_self,
      withStoredAnswer_answerPairAt, AnswerPair.spare_withSpare, AnswerPair.published_withSpare]
    refine ⟨rfl, ⟨rfl, rfl, rfl, rfl, bytes⟩, fun free => ?_, fun pending => ?_⟩
    · rw [if_neg (Bool.eq_false_iff.1 free)]
    · rw [if_pos pending, saturatingSucc]

/-! ### COMMIT_CALL (R91 to R93) -/

/-- The checks and effects of COMMIT_CALL on a defined station (R91 to R93). -/
theorem commitCall_defined {p : TakenCommand} {s : State} {i : Fin 32} (index : fieldOf p.param0 0 8 = i.val)
    (defined : (s.stationAt i).defined = true) :
    commitCall p s =
      if (s.stationAt i).commitPending = true then refuse s .pending 0
      else if s.port.view = some (.stationCall i) then refuse s .inUse 0
      else if (s.engineAt (s.stationAt i).line).control = .stopped
          ∨ (s.engineAt (s.stationAt i).line).control = .halted then
        { state := s.setCallPair i (s.callPairAt i).swap, result := .ok, detail := 0 }
      else
        { state := s.setStation i { s.stationAt i with commitPending := true }, result := .okDeferred,
          detail := 0 } := by
  unfold commitCall
  simp only [index, stationOfNat_val, i.isLt, not_true_eq_false, defined, Bool.true_eq_false, if_false]
  cases control : (s.engineAt (s.stationAt i).line).control <;> simp

/-- Settles O50: the checks in their order, then the control state of the station's line. -/
theorem commitCallActs : Obligations.CommitCallActs := by
  refine ⟨fun s p taken => ?_, fun pair => ⟨pair.live_swap, pair.staged_swap⟩⟩
  obtain ⟨range, undefined⟩ := commitCall_checks.refuses taken
  refine ⟨range, fun i index => ⟨undefined i index, fun defined pending => ?_, fun defined free viewed => ?_,
    fun defined free unviewed => ?_⟩⟩
  · exact next_completeCommand taken ((commitCall_defined index defined).trans (if_pos pending))
  · have unpended := (commitCall_defined index defined).trans (if_neg (Bool.eq_false_iff.1 free))
    exact next_completeCommand taken (unpended.trans (if_pos viewed))
  · have unpended := (commitCall_defined index defined).trans (if_neg (Bool.eq_false_iff.1 free))
    have checked := unpended.trans (if_neg unviewed)
    refine ⟨fun resting => next_completeCommand taken (checked.trans (if_pos resting)), fun inService => ?_⟩
    have notResting : ¬ ((s.engineAt (s.stationAt i).line).control = .stopped
        ∨ (s.engineAt (s.stationAt i).line).control = .halted) := by
      obtain h | h := inService <;> simp [h]
    exact next_completeCommand taken (checked.trans (if_neg notResting))

end Sys2Proof.Machine
end

section
/-! The request commands (R112, R113, R120 to R125): what each gives on its branches, and the parameters that select
them. -/

namespace Sys2Proof.Machine

/-! ### The parameters of POST_REQUEST (R112, R189) -/

/-- The code of a target names it (R188). -/
@[simp] theorem targetOf_targetCode (target : Target) : targetOf (targetCode target) = some target := by
  cases target with
  | station i =>
    have code : (targetCode (.station i)).toNat = i.val := Nat.mod_eq_of_lt (Nat.lt_trans i.isLt (by decide))
    rw [targetOf, code, if_pos i.isLt, stationOfNat_val]
  | broadcast x => cases x <;> rfl

theorem targetOf_isSome {b : Byte} :
    (targetOf b).isSome = true ↔ b.toNat < 32 ∨ b = 0x40 ∨ b = 0x41 := by
  unfold targetOf
  split
  · next station => exact iff_of_true rfl (.inl station)
  split
  · next lineA => exact iff_of_true rfl (.inr (.inl lineA))
  split
  · next lineB => exact iff_of_true rfl (.inr (.inr lineB))
  · next station lineA lineB => exact iff_of_false nofun fun named => named.elim station (·.elim lineA lineB)

/-- The six parameters of POST_REQUEST, each in range (R112, R189). -/
def postInRange (p : TakenCommand) : List Bool :=
  [fieldOf p.param0 0 8 < 16, (targetOf (hiByte p.param0)).isSome, true, fieldOf p.param1 8 8 < 2, true,
    fieldOf p.param2 8 8 ≤ 32]

/-- The range of each parameter of POST_REQUEST by its position (R112). -/
def TakenCommand.postAt (p : TakenCommand) : Nat → Prop
  | 1 => (loByte p.param0).toNat < 16
  | 2 => (hiByte p.param0).toNat < 32 ∨ hiByte p.param0 = 0x40 ∨ hiByte p.param0 = 0x41
  | 4 => (hiByte p.param1).toNat < 2
  | 6 => (hiByte p.param2).toNat ≤ 32
  | _ => True

/-- The urgency a POST_REQUEST names (R188). -/
def TakenCommand.urgency (p : TakenCommand) : Urgency := if hiByte p.param1 = 0x01 then .urgent else .normal

section
variable {p : TakenCommand} {s : State} {d : Fin 16} {target : Target}

theorem postInRange_iff {k : Nat} (hk : k < (postInRange p).length) :
    (postInRange p)[k] = true ↔ p.postAt (k + 1) := by
  match k with
  | 0 | 3 | 5 => exact decide_eq_true_iff
  | 1 => exact targetOf_isSome
  | 2 | 4 => exact ⟨fun _ => trivial, fun _ => rfl⟩
  | n + 6 => exact absurd hk (by simp [postInRange])

theorem postInRange_some {position : Nat} (before : ∀ k, k < position → p.postAt k) (bad : ¬ p.postAt position) :
    firstOutOfRange (postInRange p) = some position := by
  have bounds : 1 ≤ position ∧ position ≤ 6 := by
    match position with
    | 0 | n + 7 => exact absurd trivial bad
    | 1 | 2 | 3 | 4 | 5 | 6 => decide
  exact firstOutOfRange_eq_some (fun k => postInRange_iff) bounds.1 bounds.2 before bad

theorem postInRange_none (inRange : ∀ k, p.postAt k) : firstOutOfRange (postInRange p) = none :=
  firstOutOfRange_eq_none fun b mem => by
    obtain ⟨k, hk, rfl⟩ := List.mem_iff_getElem.1 mem
    exact (postInRange_iff hk).2 (inRange (k + 1))

theorem urgencyOfNat_hiByte : urgencyOfNat (hiByte p.param1).toNat = p.urgency := by
  have named : (hiByte p.param1).toNat = 1 ↔ hiByte p.param1 = 0x01 := BitVec.toNat_inj (y := 0x01)
  simp only [urgencyOfNat, TakenCommand.urgency, named]

/-! ### POST_REQUEST (R112, R113) -/

theorem postRequest_badParam {position : Nat} (h : firstOutOfRange (postInRange p) = some position) :
    postRequest p s = refuse s .badParam position := by
  unfold postRequest
  unfold postInRange at h
  simp only [h]

theorem postRequest_refused {result : CommandResult} {detail : Nat} (h : firstOutOfRange (postInRange p) = none)
    (index : fieldOf p.param0 0 8 = d.val) (named : hiByte p.param0 = targetCode target)
    (refused : postRefusal s d target = some (result, detail)) : postRequest p s = refuse s result detail := by
  unfold postRequest
  unfold postInRange at h
  simp only [h]
  simp only [index, descriptorOfNat_val, named, targetOf_targetCode, Option.getD_some, refused]

/-- The state behind an accepted POST_REQUEST, before the pick it may cause (R113). -/
def TakenCommand.enqueued (p : TakenCommand) (d : Fin 16) (target : Target) (s : State) : State :=
  enqueue d target (loByte p.param1) (loByte p.param2) p.urgency (hiByte p.param2).toNat s

theorem postRequest_accepted (h : firstOutOfRange (postInRange p) = none)
    (index : fieldOf p.param0 0 8 = d.val) (named : hiByte p.param0 = targetCode target)
    (accepted : postRefusal s d target = none) :
    postRequest p s =
      { state := if postCausesPick s (targetLine s target) p.urgency then
            pickAndGive (targetLine s target) (p.enqueued d target s)
          else p.enqueued d target s,
        result := .ok, detail := (s.fifo (targetLine s target) p.urgency).length + 1 } := by
  unfold postRequest
  unfold postInRange at h
  simp only [h]
  simp only [index, descriptorOfNat_val, named, targetOf_targetCode, Option.getD_some, accepted, fieldOf_high,
    urgencyOfNat_hiByte, TakenCommand.enqueued]

theorem postRefusal_taken (target : Target)
    (taken : (s.descriptorAt d).state = .queued ∨ (s.descriptorAt d).state = .active
      ∨ (s.descriptorAt d).state = .done) : postRefusal s d target = some (.wrongState, 1) := by
  obtain state | state | state := taken <;> simp only [postRefusal, state]

theorem postRefusal_station (free : (s.descriptorAt d).state = .free ∨ (s.descriptorAt d).state = .opened)
    (i : Fin 32) :
    postRefusal s d (.station i) =
      if (s.stationAt i).defined = false then some (.notDefined, 0)
      else if (s.stationAt i).health = .disabled then some (.wrongState, 2)
      else none := by
  obtain state | state := free <;> simp only [postRefusal, state]

theorem postRefusal_none (free : (s.descriptorAt d).state = .free ∨ (s.descriptorAt d).state = .opened)
    (fit : ∀ i, target = .station i → (s.stationAt i).defined = true ∧ (s.stationAt i).health ≠ .disabled) :
    postRefusal s d target = none := by
  cases target with
  | station i =>
    obtain ⟨defined, enabled⟩ := fit i rfl
    rw [postRefusal_station free, if_neg (by simp [defined]), if_neg enabled]
  | broadcast x => obtain state | state := free <;> simp only [postRefusal, state]

theorem postCausesPick_iff {x : Line} {u : Urgency} :
    postCausesPick s x u = true ↔
      s.fifo x u = [] ∧ (s.engineAt x).control = .running ∧ (s.engineAt x).windDown = false
        ∧ (s.sweepAt x).state = .between ∧ (s.engineAt x).exchange = none
        ∧ (s.engineAt x).config.mode ≠ .repeating := by
  simp [postCausesPick, and_assoc]

/-- Settles O47: the parameters, the checks by the descriptor and the station, then whether the request causes a
pick. -/
theorem postRequestQueues : Obligations.PostRequestQueues := by
  intro s p taken
  refine ⟨fun position before bad => ?_, fun d target inRange index named => ?_⟩
  · exact next_completeCommand taken (postRequest_badParam (postInRange_some before bad))
  have range := postInRange_none inRange
  have refuses {result : CommandResult} {detail : Nat} (refused : postRefusal s d target = some (result, detail)) :
      exec .postRequest s = .next (s.completed result detail) :=
    next_completeCommand taken (postRequest_refused range index named refused)
  refine ⟨fun busy => refuses (postRefusal_taken target busy), fun free => ⟨?_, ?_, fun fit => ?_⟩⟩
  · rintro i rfl undefined
    exact refuses ((postRefusal_station free i).trans (if_pos undefined))
  · rintro i rfl defined disabled
    exact refuses ((postRefusal_station free i).trans ((if_neg (by simp [defined])).trans (if_pos disabled)))
  · have body := postRequest_accepted range index named (postRefusal_none free fit)
    refine ⟨fun picks => ?_, fun stays => ?_⟩
    · have empty : s.fifo (targetLine s target) p.urgency = [] := picks.1
      have picks : postCausesPick s (targetLine s target) p.urgency = true := postCausesPick_iff.2 picks
      rw [if_pos picks, empty] at body
      exact next_completeCommand taken body
    · have stays : ¬ postCausesPick s (targetLine s target) p.urgency = true := mt postCausesPick_iff.1 stays
      rw [if_neg stays] at body
      exact next_completeCommand taken body

end

/-! ### CANCEL_REQUEST (R120 to R122) -/

section
variable {p : TakenCommand} {s : State} {d : Fin 16}

theorem cancelRequest_badParam (high : 16 ≤ fieldOf p.param0 0 8) : cancelRequest p s = refuse s .badParam 1 :=
  if_pos (Nat.not_lt.2 high)

theorem cancelRequest_resting (index : fieldOf p.param0 0 8 = d.val)
    (rests : (s.descriptorAt d).state = .free ∨ (s.descriptorAt d).state = .opened
      ∨ (s.descriptorAt d).state = .done) : cancelRequest p s = refuse s .wrongState 0 := by
  unfold cancelRequest
  simp only [index, descriptorOfNat_val, d.isLt, not_true_eq_false, if_false]
  obtain state | state | state := rests <;> simp only [state]

theorem cancelRequest_queued (index : fieldOf p.param0 0 8 = d.val) (queued : (s.descriptorAt d).state = .queued) :
    cancelRequest p s = { state := completeQueued .cancelled d (leaveFifo d s), result := .ok, detail := 0 } := by
  unfold cancelRequest
  simp only [index, descriptorOfNat_val, d.isLt, not_true_eq_false, if_false, queued]

theorem cancelRequest_active (index : fieldOf p.param0 0 8 = d.val) (active : (s.descriptorAt d).state = .active) :
    cancelRequest p s =
      if (s.descriptorAt d).cancelRequested = true then refuse s .pending 0
      else
        { state := s.setDescriptor d { s.descriptorAt d with cancelRequested := true }, result := .okDeferred,
          detail := 0 } := by
  unfold cancelRequest
  simp only [index, descriptorOfNat_val, d.isLt, not_true_eq_false, if_false, active]

/-! ### COLLECT_REQUEST (R125) -/

theorem collectRequest_badParam (high : 16 ≤ fieldOf p.param0 0 8) : collectRequest p s = refuse s .badParam 1 :=
  if_pos (Nat.not_lt.2 high)

theorem collectRequest_unfinished (index : fieldOf p.param0 0 8 = d.val)
    (unfinished : (s.descriptorAt d).state = .free ∨ (s.descriptorAt d).state = .queued
      ∨ (s.descriptorAt d).state = .active) : collectRequest p s = refuse s .wrongState 0 := by
  unfold collectRequest
  simp only [index, descriptorOfNat_val, d.isLt, not_true_eq_false, if_false]
  obtain state | state | state := unfinished <;> simp only [state]

theorem collectRequest_finished (index : fieldOf p.param0 0 8 = d.val)
    (finished : (s.descriptorAt d).state = .done ∨ (s.descriptorAt d).state = .opened) :
    collectRequest p s =
      if s.port.view = some (.requestCall d) ∨ s.port.view = some (.requestAnswer d) then refuse s .inUse 0
      else { state := s.setDescriptor d (s.descriptorAt d).collected, result := .ok, detail := 0 } := by
  unfold collectRequest
  simp only [index, descriptorOfNat_val, d.isLt, not_true_eq_false, if_false]
  obtain state | state := finished <;> simp only [state]

/-! ### FLUSH_REQUESTS (R124) -/

theorem flushRequests_badLine (high : 2 ≤ fieldOf p.param0 0 8) : flushRequests p s = refuse s .badParam 1 := by
  have low : ¬ fieldOf p.param0 0 8 < 2 := Nat.not_lt.2 high
  simp only [flushRequests, firstOutOfRange, low, decide_false, Bool.false_eq_true, if_false]

theorem flushRequests_badQueues {x : Line} (line : loByte p.param0 = lineCode x)
    (bad : ¬ (1 ≤ fieldOf p.param0 8 8 ∧ fieldOf p.param0 8 8 ≤ 3)) :
    flushRequests p s = refuse s .badParam 2 := by
  have low : fieldOf p.param0 0 8 < 2 := by rw [fieldOf_low, line]; exact lineCode_lt x
  simp only [flushRequests, firstOutOfRange, low, bad, decide_true, decide_false, Bool.false_eq_true, if_false, if_true,
    Option.map_some]

/-- The queues named by `which` are emptied and their descriptors completed (R124). -/
theorem flushRequests_ok {x : Line} {which : Nat} (line : loByte p.param0 = lineCode x)
    (queues : fieldOf p.param0 8 8 = which) (low : 1 ≤ which) (high : which ≤ 3) :
    flushRequests p s =
      { state := completeAllQueued .cancelled (flushed s x which) (emptyFifos x which s), result := .ok,
        detail := (flushed s x which).length } := by
  have lineRange : fieldOf p.param0 0 8 < 2 := by rw [fieldOf_low, line]; exact lineCode_lt x
  have named : lineOfNat (fieldOf p.param0 0 8) = x := lineOfNat_eq line
  simp only [flushRequests, firstOutOfRange, lineRange, named, queues, low, high, and_self, decide_true, if_true,
    Option.map_none]

/-- Settles O48: CANCEL_REQUEST by the descriptor's state, COLLECT_REQUEST by its state and the open view,
FLUSH_REQUESTS by its queues. -/
theorem requestsAreWithdrawnAndCollected : Obligations.RequestsAreWithdrawnAndCollected := by
  intro s p
  refine ⟨fun high => ⟨fun taken => ?_, fun taken => ?_⟩, fun d index => ⟨fun taken => ?_, fun taken => ?_⟩,
    fun taken => ⟨fun high => ?_, fun x line => ?_⟩⟩
  · exact next_completeCommand taken (cancelRequest_badParam high)
  · exact next_completeCommand taken (collectRequest_badParam high)
  · refine ⟨fun rests => ?_, fun queued => ?_, fun active unasked => ?_, fun active asked => ?_⟩
    · exact next_completeCommand taken (cancelRequest_resting index rests)
    · exact next_completeCommand taken (cancelRequest_queued index queued)
    · exact next_completeCommand taken
        ((cancelRequest_active index active).trans (if_neg (Bool.eq_false_iff.1 unasked)))
    · exact next_completeCommand taken ((cancelRequest_active index active).trans (if_pos asked))
  · refine ⟨fun unfinished => ?_, fun finished => ⟨fun viewed => ?_, fun call answer => ?_⟩⟩
    · exact next_completeCommand taken (collectRequest_unfinished index unfinished)
    · exact next_completeCommand taken ((collectRequest_finished index finished).trans (if_pos viewed))
    · exact next_completeCommand taken
        ((collectRequest_finished index finished).trans (if_neg (not_or.2 ⟨call, answer⟩)))
  · exact next_completeCommand taken (flushRequests_badLine high)
  · have flushes {which : Byte} (queues : hiByte p.param0 = which) (low : 1 ≤ which.toNat) (high : which.toNat ≤ 3) :
        exec .flushRequests s = .next
          ((completeAllQueued .cancelled (flushed s x which.toNat) (emptyFifos x which.toNat s)).completed .ok
            (flushed s x which.toNat).length) :=
      next_completeCommand taken (flushRequests_ok line (congrArg BitVec.toNat queues) low high)
    refine ⟨fun bad => ?_, fun urgent => ?_, fun normal => ?_, fun both => ?_⟩
    · refine next_completeCommand taken (flushRequests_badQueues line ?_)
      rw [fieldOf_high]
      obtain none | beyond := bad
      · simp [none]
      · omega
    · rw [flushes urgent (by decide) (by decide)]
      simp [flushed, emptyFifos]
    · rw [flushes normal (by decide) (by decide)]
      simp [flushed, emptyFifos]
    · rw [flushes both (by decide) (by decide)]
      simp [flushed, emptyFifos]

end

end Sys2Proof.Machine
end

section
/-! The law of the request queues and of the descriptor in flight (R49, R108), with the descriptors that are on their
way out of the queues: what withdraws a descriptor, what settles it, and what leaves the law alone. -/

namespace Sys2Proof.Machine

/-! ### The law, less the descriptors withdrawn -/

/-- The descriptor of the exchange in flight on a line, where it has one (R49, R50). -/
def LineEngine.carried (g : LineEngine) : Option (Fin 16) := g.exchange.bind Exchange.descriptor

/-- The law of the request queues (R108) and of the descriptor in flight (R49) for all but the descriptors `out`, which
stand in no queue and in no exchange: a command that withdraws a descriptor takes it out first and completes it then. -/
structure RequestLaw (out : List (Fin 16)) (s : State) : Prop where
  queued : ∀ d, (s.descriptorAt d).state = .queued → d ∉ out →
    (s.fifo (s.descriptorAt d).line (s.descriptorAt d).urgency).count d = 1
  standing : ∀ x u, ∀ d ∈ s.fifo x u,
    d ∉ out ∧ (s.descriptorAt d).state = .queued ∧ (s.descriptorAt d).line = x ∧ (s.descriptorAt d).urgency = u
  active : ∀ x d, (s.engineAt x).carried = some d →
    d ∉ out ∧ (s.descriptorAt d).state = .active ∧ (s.descriptorAt d).line = x

theorem LineEngine.carried_eq_some {g : LineEngine} {d : Fin 16} :
    g.carried = some d ↔ ∃ e, g.exchange = some e ∧ e.descriptor = some d := Option.bind_eq_some_iff

/-- With no descriptor withdrawn it is the law of the model. -/
theorem requestLaw_iff {s : State} : RequestLaw [] s ↔ queuesLawful s ∧ exchangesLawful s := by
  refine ⟨fun h => ⟨⟨fun d state => h.queued d state (by simp), fun x u d mem => (h.standing x u d mem).2⟩,
    fun x e d flight has => (h.active x d (LineEngine.carried_eq_some.2 ⟨e, flight, has⟩)).2⟩, ?_⟩
  rintro ⟨⟨queued, standing⟩, active⟩
  refine ⟨fun d state _ => queued d state, fun x u d mem => ⟨by simp, standing x u d mem⟩, fun x d carried => ?_⟩
  obtain ⟨e, flight, has⟩ := LineEngine.carried_eq_some.1 carried
  exact ⟨by simp, active x e d flight has⟩

/-! ### What leaves the law alone -/

/-- `t` comes from `s` with the Request Pool as it was, and each line carries the descriptor it carried, or none. -/
structure RequestsKept (s t : State) : Prop where
  pool : t.pool = s.pool
  carried : ∀ x, (t.engineAt x).carried = none ∨ (t.engineAt x).carried = (s.engineAt x).carried

section
variable {s t u : State} {x : Line}

theorem RequestsKept.elsewhere (pool : t.pool = s.pool) (engine : t.engine = s.engine) : RequestsKept s t :=
  ⟨pool, fun x => .inr (by rw [State.engineAt, engine, State.engineAt])⟩

theorem RequestsKept.refl (s : State) : RequestsKept s s := .elsewhere rfl rfl

theorem RequestsKept.trans (h : RequestsKept s t) (h' : RequestsKept t u) : RequestsKept s u where
  pool := h'.pool.trans h.pool
  carried x := (h'.carried x).elim .inl fun same => (h.carried x).imp same.trans same.trans

theorem Aside.kept (h : Aside s t) (pool : t.pool = s.pool) : RequestsKept s t := .elsewhere pool h.engine

theorem ite_kept {c : Prop} [Decidable c] (ht : RequestsKept s t) (hu : RequestsKept s u) :
    RequestsKept s (if c then t else u) := by
  split
  · exact ht
  · exact hu

theorem RequestsKept.modEngine {f : LineEngine → LineEngine}
    (h : (f (s.engineAt x)).carried = none ∨ (f (s.engineAt x)).carried = (s.engineAt x).carried) :
    RequestsKept s (s.modEngine x f) where
  pool := rfl
  carried y := by
    rw [engineAt_modEngine]
    split
    · next same => exact same ▸ h
    · exact .inr rfl

theorem modSweep_kept (x : Line) (f : SweepController → SweepController) (s : State) :
    RequestsKept s (s.modSweep x f) := .elsewhere rfl rfl

theorem post_kept (r : EventRecord) (s : State) : RequestsKept s (post r s) := .elsewhere rfl rfl

theorem setStation_kept (i : Fin 32) (r : Station) (s : State) : RequestsKept s (s.setStation i r) := .elsewhere rfl rfl

theorem setRx_kept (x : Line) (level : PinLevel) (s : State) : RequestsKept s (s.setRx x level) := .elsewhere rfl rfl

theorem finish_kept (c : Completion) : RequestsKept c.state (finish c) := .elsewhere rfl rfl

theorem postAll_kept (rs : List EventRecord) (s : State) : RequestsKept s (postAll rs s) :=
  (postAll_aside rs s).kept (postAll_pool rs s)

/-- Descriptors and queues are those of the Request Pool. -/
theorem RequestsKept.descriptorAt (h : RequestsKept s t) (d : Fin 16) : t.descriptorAt d = s.descriptorAt d := by
  rw [State.descriptorAt, h.pool, State.descriptorAt]

theorem RequestsKept.fifo (h : RequestsKept s t) (x : Line) (u : Urgency) : t.fifo x u = s.fifo x u := by
  unfold State.fifo
  rw [h.pool]

variable {out gone q : List (Fin 16)} {d : Fin 16} {r : Descriptor} {v : Urgency}

theorem RequestLaw.keep (h : RequestLaw out s) (kept : RequestsKept s t) : RequestLaw out t where
  queued d := by
    rw [kept.descriptorAt, kept.fifo]
    exact h.queued d
  standing x u d := by
    rw [kept.descriptorAt, kept.fifo]
    exact h.standing x u d
  active x d carried := by
    rw [kept.descriptorAt]
    obtain none | same := kept.carried x
    · exact nomatch none.symm.trans carried
    · exact h.active x d (same.symm.trans carried)

/-! ### Descriptors withdrawn and settled -/

/-- A descriptor in no queue and in no exchange counts as withdrawn. -/
theorem RequestLaw.withdraw (h : RequestLaw out s) (unqueued : (s.descriptorAt d).state ≠ .queued)
    (uncarried : ∀ x, (s.engineAt x).carried ≠ some d) : RequestLaw (d :: out) s where
  queued j state kept := h.queued j state fun mem => kept (.tail d mem)
  standing x u j mem := by
    obtain ⟨kept, state, place⟩ := h.standing x u j mem
    exact ⟨List.not_mem_cons_of_ne_of_not_mem (fun same => unqueued (same ▸ state)) kept, state, place⟩
  active x j carried := by
    obtain ⟨kept, state⟩ := h.active x j carried
    exact ⟨List.not_mem_cons_of_ne_of_not_mem (fun same => uncarried x (same ▸ carried)) kept, state⟩

/-- A descriptor that is neither QUEUED nor ACTIVE. -/
theorem RequestLaw.withdraw_resting (h : RequestLaw out s) (unqueued : (s.descriptorAt d).state ≠ .queued)
    (inactive : (s.descriptorAt d).state ≠ .active) : RequestLaw (d :: out) s :=
  h.withdraw unqueued fun x carried => inactive (h.active x d carried).2.1

/-- A withdrawn descriptor may become anything. -/
theorem RequestLaw.setDescriptor (h : RequestLaw (d :: out) s) (r : Descriptor) :
    RequestLaw (d :: out) (s.setDescriptor d r) := by
  have other {j : Fin 16} (kept : j ∉ d :: out) : (s.setDescriptor d r).descriptorAt j = s.descriptorAt j := by
    rw [descriptorAt_setDescriptor, if_neg (List.ne_of_not_mem_cons kept)]
  refine ⟨fun j state kept => ?_, fun x u j mem => ?_, fun x j carried => ?_⟩
  · rw [other kept] at state ⊢
    rw [setDescriptor_fifo]
    exact h.queued j state kept
  · rw [setDescriptor_fifo] at mem
    rw [other (h.standing x u j mem).1]
    exact h.standing x u j mem
  · rw [other (h.active x j carried).1]
    exact h.active x j carried

/-- A withdrawn descriptor that is not QUEUED is within the law. -/
theorem RequestLaw.settle (h : RequestLaw (d :: out) s) (unqueued : (s.descriptorAt d).state ≠ .queued) :
    RequestLaw out s where
  queued j state kept :=
    h.queued j state (List.not_mem_cons_of_ne_of_not_mem (fun same => unqueued (same ▸ state)) kept)
  standing x u j mem := (h.standing x u j mem).imp_left List.not_mem_of_not_mem_cons
  active x j carried := (h.active x j carried).imp_left List.not_mem_of_not_mem_cons

theorem RequestLaw.settled (h : RequestLaw (d :: out) s) (unqueued : r.state ≠ .queued) :
    RequestLaw out (s.setDescriptor d r) :=
  (h.setDescriptor r).settle (by rwa [descriptorAt_setDescriptor_self])

/-- Descriptors `gone` leave a queue, of which `q` remains. -/
theorem RequestLaw.leave (h : RequestLaw out s) (left : ∀ d ∈ gone, d ∈ s.fifo x v ∧ d ∉ q)
    (rest : ∀ d, d ∉ gone → q.count d = (s.fifo x v).count d) : RequestLaw (out ++ gone) (s.setFifo x v q) := by
  have stays {d : Fin 16} (kept : d ∉ out) (remains : d ∉ gone) : d ∉ out ++ gone := by simp [kept, remains]
  refine ⟨fun d state kept => ?_, fun y u d mem => ?_, fun y d carried => ?_⟩
  · rw [setFifo_descriptorAt] at state ⊢
    obtain ⟨kept, remains⟩ := not_or.1 (mt List.mem_append.2 kept)
    have once := h.queued d state kept
    rw [fifo_setFifo]
    split
    · next place => rwa [rest d remains, ← place.1, ← place.2]
    · exact once
  · rw [fifo_setFifo] at mem
    rw [setFifo_descriptorAt]
    split at mem
    · next place =>
      have remains : d ∉ gone := fun hd => (left d hd).2 mem
      have stood : d ∈ s.fifo x v := List.count_pos_iff.1 (rest d remains ▸ List.count_pos_iff.2 mem)
      obtain ⟨kept, law⟩ := h.standing x v d stood
      exact ⟨stays kept remains, by rwa [place.1, place.2]⟩
    · next elsewhere =>
      obtain ⟨kept, state, line, urgency⟩ := h.standing y u d mem
      refine ⟨stays kept fun hd => elsewhere ?_, state, line, urgency⟩
      obtain ⟨_, _, line', urgency'⟩ := h.standing x v d (left d hd).1
      exact ⟨line.symm.trans line', urgency.symm.trans urgency'⟩
  · rw [setFifo_descriptorAt]
    rw [setFifo_engineAt] at carried
    obtain ⟨kept, state, line⟩ := h.active y d carried
    refine ⟨stays kept fun hd => ?_, state, line⟩
    exact nomatch state.symm.trans (h.standing x v d (left d hd).1).2.1

/-- Those that a test picks leave a queue; the others close up (R18, R108). -/
theorem RequestLaw.leave_filter (h : RequestLaw out s) (x : Line) (v : Urgency) (p : Fin 16 → Bool) :
    RequestLaw (out ++ (s.fifo x v).filter p) (s.setFifo x v ((s.fifo x v).filter fun d => !p d)) := by
  refine h.leave (fun d mem => ?_) fun d remains => ?_
  · obtain ⟨stood, picked⟩ := List.mem_filter.1 mem
    exact ⟨stood, fun rest => by simp [picked] at rest⟩
  · cases picked : p d with
    | false => exact List.count_filter (by simp [picked])
    | true =>
      have absent : d ∉ s.fifo x v := fun stood => remains (List.mem_filter.2 ⟨stood, picked⟩)
      rw [List.count_eq_zero.2 absent, List.count_eq_zero.2 fun mem => absent (List.mem_of_mem_filter mem)]

/-- A queue is emptied (R124). -/
theorem RequestLaw.leave_all (h : RequestLaw out s) (x : Line) (v : Urgency) :
    RequestLaw (out ++ s.fifo x v) (s.setFifo x v []) :=
  h.leave (fun _ mem => ⟨mem, List.not_mem_nil⟩) fun _ absent => (List.count_eq_zero.2 absent).symm

/-- A QUEUED descriptor that has been set aside joins the tail of its queue (R108, R113). -/
theorem RequestLaw.join (h : RequestLaw [d] s) (state : (s.descriptorAt d).state = .queued)
    (line : (s.descriptorAt d).line = x) (urgency : (s.descriptorAt d).urgency = v) :
    RequestLaw [] (s.setFifo x v (s.fifo x v ++ [d])) := by
  have absent (y : Line) (u : Urgency) : d ∉ s.fifo y u :=
    fun mem => (h.standing y u d mem).1 (List.mem_singleton_self d)
  refine ⟨fun j queued _ => ?_, fun y u j mem => ?_, fun y j carried => ?_⟩
  · rw [setFifo_descriptorAt] at queued ⊢
    rw [fifo_setFifo]
    by_cases same : j = d
    · rw [same, line, urgency, if_pos ⟨rfl, rfl⟩, List.count_append, List.count_eq_zero.2 (absent x v)]
      simp
    · have once := h.queued j queued (by simpa using same)
      split
      · next place => simpa [place.1, place.2, Ne.symm same] using once
      · exact once
  · rw [fifo_setFifo] at mem
    rw [setFifo_descriptorAt]
    refine ⟨List.not_mem_nil, ?_⟩
    split at mem
    · next place =>
      obtain stood | same := List.mem_append.1 mem
      · rw [place.1, place.2]
        exact (h.standing x v j stood).2
      · rw [List.mem_singleton.1 same, place.1, place.2]
        exact ⟨state, line, urgency⟩
    · exact (h.standing y u j mem).2
  · rw [setFifo_descriptorAt]
    rw [setFifo_engineAt] at carried
    exact ⟨List.not_mem_nil, (h.active y j carried).2⟩

/-- A descriptor's other fields move freely. -/
theorem RequestLaw.noted (h : RequestLaw out s) (state : r.state = (s.descriptorAt d).state)
    (line : r.line = (s.descriptorAt d).line) (urgency : r.urgency = (s.descriptorAt d).urgency) :
    RequestLaw out (s.setDescriptor d r) := by
  have same (j : Fin 16) : ((s.setDescriptor d r).descriptorAt j).state = (s.descriptorAt j).state
      ∧ ((s.setDescriptor d r).descriptorAt j).line = (s.descriptorAt j).line
      ∧ ((s.setDescriptor d r).descriptorAt j).urgency = (s.descriptorAt j).urgency := by
    rw [descriptorAt_setDescriptor]
    split
    · next here => exact here ▸ ⟨state, line, urgency⟩
    · exact ⟨rfl, rfl, rfl⟩
  refine ⟨fun j => ?_, fun x u j => ?_, fun x j => ?_⟩
  · rw [(same j).1, (same j).2.1, (same j).2.2, setDescriptor_fifo]
    exact h.queued j
  · rw [(same j).1, (same j).2.1, (same j).2.2, setDescriptor_fifo]
    exact h.standing x u j
  · rw [(same j).1, (same j).2.1]
    exact h.active x j

/-- A line takes an exchange whose descriptor, where it has one, is ACTIVE and of the line (R49). -/
theorem RequestLaw.modEngine (h : RequestLaw [] s) {f : LineEngine → LineEngine}
    (active : ∀ d, (f (s.engineAt x)).carried = some d →
      (s.descriptorAt d).state = .active ∧ (s.descriptorAt d).line = x) : RequestLaw [] (s.modEngine x f) where
  queued := by simpa using h.queued
  standing := by simpa using h.standing
  active y d := by
    rw [engineAt_modEngine, modEngine_descriptorAt]
    split
    · next same => exact fun carried => ⟨List.not_mem_nil, same ▸ active d carried⟩
    · exact h.active y d

end

end Sys2Proof.Machine
end

section
/-! The law of the request queues through the shared operations: descriptors completed, the exchange, the entry into
STOPPED or HALTED, and the picks. -/

namespace Sys2Proof.Machine

/-! ### Descriptors completed (R104, R117 to R119) -/

section
variable {s : State} {x : Line} {d : Fin 16}

/-- Of the Request Pool a completion changes the descriptor alone, which is DONE behind it. -/
theorem finishDescriptor_pool (d : Fin 16) (result : ExchangeResult) (attempts : Nat) (answer : RequestAnswer)
    (s : State) :
    ∃ r, r.state = .done ∧ (finishDescriptor d result attempts answer s).pool = (s.setDescriptor d r).pool :=
  ⟨{ s.descriptorAt d with
      state := .done, result := some result, attemptsUsed := attempts,
      stamp := some (s.sweepAt (s.descriptorAt d).line).count }, rfl, rfl⟩

theorem completeQueued_requestLaw {out : List (Fin 16)} (h : RequestLaw (d :: out) s) (result : ExchangeResult) :
    RequestLaw out (completeQueued result d s) := by
  obtain ⟨r, done, pool⟩ := finishDescriptor_pool d result 0 (s.requestAnswerAt d) s
  exact (h.settled (r := r) (by simp [done])).keep (.elsewhere pool rfl)

/-- Withdrawn descriptors are completed one after another (R18, R124). -/
theorem completeAllQueued_requestLaw (result : ExchangeResult) :
    ∀ (ds : List (Fin 16)) (s : State), RequestLaw ds s → RequestLaw [] (completeAllQueued result ds s)
  | [], _, h => h
  | d :: rest, s, h => completeAllQueued_requestLaw result rest (completeQueued result d s)
      (completeQueued_requestLaw h result)

/-! ### The exchange -/

theorem modEngine_kept {f : LineEngine → LineEngine} (same : (f (s.engineAt x)).carried = (s.engineAt x).carried) :
    RequestsKept s (s.modEngine x f) := .modEngine (.inr same)

theorem modEngine_dropped {f : LineEngine → LineEngine} (none : (f (s.engineAt x)).carried = none) :
    RequestsKept s (s.modEngine x f) := .modEngine (.inl none)

/-- An exchange's record of its outcome carries what it carried. -/
theorem carried_recorded (o : Option Exchange) (outcome : ExchangeResult) :
    (o.map fun e => { e with outcome := some outcome }).bind Exchange.descriptor = o.bind Exchange.descriptor := by
  cases o <;> rfl

theorem enterGuard_kept (x : Line) (s : State) : RequestsKept s (enterGuard x s) := modEngine_kept rfl

theorem enterDraining_kept (x : Line) (outcome : ExchangeResult) (s : State) :
    RequestsKept s (enterDraining x outcome s) := .modEngine (.inr (carried_recorded _ outcome))

theorem closeAttempt_kept (x : Line) (outcome : ExchangeResult) (s : State) :
    RequestsKept s (closeAttempt x outcome s) := by
  rw [closeAttempt_eq]
  exact .modEngine (.inr (carried_recorded _ outcome))

/-- An attempt of the exchange in flight, or of one that carries no descriptor. -/
theorem call_kept {e : Exchange} (known : e.descriptor = none ∨ (s.engineAt x).exchange = some e) :
    RequestsKept s (s.modEngine x fun g => g.call e) := by
  obtain free | flight := known
  · exact modEngine_dropped free
  · exact modEngine_kept (by rw [LineEngine.carried, LineEngine.carried, flight]; rfl)

/-- Work is accepted into the record, whether its attempt begins at once or waits (R49). -/
theorem accepted_carried (g : LineEngine) (e : Exchange) :
    (if g.exState = .idle then g.call e else { g with exchange := some e }).carried = e.descriptor := by
  split <;> rfl

theorem acceptExchange_kept {e : Exchange} (free : e.descriptor = none) : RequestsKept s (acceptExchange x e s) :=
  modEngine_dropped ((accepted_carried _ e).trans free)

theorem startSafeCall_kept (x : Line) (s : State) : RequestsKept s (startSafeCall x s) := acceptExchange_kept rfl

theorem swapCommits_pool : ∀ (is : List (Fin 32)) (s : State), (swapCommits is s).pool = s.pool
  | [], _ => rfl
  | i :: rest, s => swapCommits_pool rest (swapCommit i s)

theorem takeCommit_kept (i : Fin 32) (s : State) : RequestsKept s (takeCommit i s) :=
  ite_kept (.elsewhere rfl rfl) (.refl s)

theorem startSlot_kept (x : Line) (i : Fin 32) (kind : ExchangeKind) (s : State) :
    RequestsKept s (startSlot x i kind s) := (takeCommit_kept i s).trans (acceptExchange_kept rfl)

theorem requestExchange_descriptor (s : State) (d : Fin 16) : (requestExchange s d).descriptor = some d := by
  unfold requestExchange
  dsimp only
  split <;> rfl

/-- A request's exchange starts on the line of its ACTIVE descriptor (R109). -/
theorem startRequest_requestLaw (h : RequestLaw [] s) (state : (s.descriptorAt d).state = .active)
    (line : (s.descriptorAt d).line = x) : RequestLaw [] (startRequest x d s) := by
  unfold startRequest acceptExchange
  refine h.modEngine fun j carried => ?_
  rw [accepted_carried, requestExchange_descriptor, Option.some.injEq] at carried
  exact carried ▸ ⟨state, line⟩

/-- Of the Request Pool a hand-over changes the descriptor of its exchange alone, which is DONE behind it (R70). -/
theorem handOver_pool (x : Line) (outcome : ExchangeResult) (e : Exchange) (s : State) :
    (handOver x outcome e s).pool = s.pool
      ∨ ∃ d r, e.descriptor = some d ∧ r.state = .done
          ∧ (handOver x outcome e s).pool = (s.setDescriptor d r).pool := by
  rw [handOver, modEngine_pool]
  have reported := handReport_pool outcome e s (s.engineAt x).buffer.status
  generalize handReport outcome e (s.engineAt x).buffer.status s = t at reported
  obtain ⟨i, _, h⟩ | ⟨d, kind, has, h⟩ | h := handAnswer_cases outcome e (s.engineAt x).buffer (s.sweepAt x).count t
    <;> rw [h]
  · exact .inl ((storeAnswer_pool i _ _ t).trans reported)
  · obtain ⟨r, done, pool⟩ := finishDescriptor_pool d _ e.made _ t
    exact .inr ⟨d, r, has, done, by rw [completeActive, pool, State.setDescriptor, reported, State.setDescriptor]⟩
  · exact .inl reported

theorem handOver_carried (x : Line) (outcome : ExchangeResult) (e : Exchange) (s : State) (y : Line) :
    ((handOver x outcome e s).engineAt y).carried = if y = x then none else (s.engineAt y).carried := by
  split
  · next same => rw [same, handOver_engineAt]; rfl
  · next other => rw [handOver_engineAt_ne x outcome e s other]

/-- The exchange in flight is handed over: its line carries nothing any more, so its descriptor, which no other line
carries, may be DONE. -/
theorem handOver_requestLaw {e : Exchange} (outcome : ExchangeResult) (h : RequestLaw [] s)
    (flight : (s.engineAt x).exchange = some e) : RequestLaw [] (handOver x outcome e s) := by
  have carried := handOver_carried x outcome e s
  obtain pool | ⟨d, r, has, done, pool⟩ := handOver_pool x outcome e s
  · refine h.keep ⟨pool, fun y => ?_⟩
    rw [carried]
    split
    · exact .inl rfl
    · exact .inr rfl
  · have law := (h.active x d (LineEngine.carried_eq_some.2 ⟨e, flight, has⟩)).2
    have dropped : RequestsKept s (s.modEngine x fun g => g.ended outcome) := modEngine_dropped rfl
    have free : RequestLaw [d] (s.modEngine x fun g => g.ended outcome) := by
      refine (h.keep dropped).withdraw (by simp [law.1]) fun y flies => ?_
      rw [engineAt_modEngine] at flies
      split at flies
      · cases flies
      · next other => exact other ((h.active y d flies).2.2.symm.trans law.2)
    refine (free.settled (r := r) (by simp [done])).keep ⟨pool, fun y => .inr ?_⟩
    rw [carried, setDescriptor_engineAt, engineAt_modEngine]
    split <;> rfl

/-! ### The entry into STOPPED or HALTED (R136) -/

/-- A line at rest carries nothing (R136). -/
theorem entered_kept (x : Line) (target : EntryTarget) (s : State) :
    RequestsKept s ((s.modEngine x fun g => g.entered target).modSweep x SweepController.abandoned) :=
  (modEngine_dropped rfl).trans (modSweep_kept x _ _)

theorem enterQuietly_kept (x : Line) (target : EntryTarget) (s : State) : RequestsKept s (enterQuietly x target s) := by
  have swapped := (entered_kept x target s).trans
    ((swapCommits_aside (pendingCommits s x) _).kept (swapCommits_pool _ _))
  cases target with
  | stopped => exact swapped
  | halted cause => exact swapped.trans (.elsewhere rfl rfl)

theorem enterLine_kept (x : Line) (target : EntryTarget) (s : State) : RequestsKept s (enterLine x target s) :=
  (enterQuietly_kept x target s).trans (postAll_kept _ _)

theorem endQuietly_kept (x : Line) (s : State) : RequestsKept s (endQuietly x s) :=
  ite_kept (modEngine_kept rfl) (ite_kept (.refl s) (entered_kept x .stopped s))

theorem endInto_requestLaw (outcome : ExchangeResult) (target : EntryTarget) (h : RequestLaw [] s) :
    RequestLaw [] (endInto x outcome target s) := by
  unfold endInto
  split
  · next flight => exact (handOver_requestLaw outcome h flight).keep (enterLine_kept x target _)
  · exact h.keep (enterLine_kept x target s)

theorem endTail_requestLaw (h : RequestLaw [] s) : RequestLaw [] (endTail x s) := by
  unfold endTail
  split
  · exact endInto_requestLaw _ _ h
  · exact h.keep (entered_kept x .stopped s)

end

/-! ### Picks (R30 to R38, R109) -/

/-- What a pick on line `x` gives: a lawful state, and of a request's work an ACTIVE descriptor of the line. -/
structure Picked (x : Line) (picked : State × Option Work) : Prop where
  law : RequestLaw [] picked.1
  work : ∀ d, picked.2 = some (.request d) →
    (picked.1.descriptorAt d).state = .active ∧ (picked.1.descriptorAt d).line = x

section
variable {s : State} {x : Line}

/-- A pick that gives no request. -/
theorem RequestLaw.picked (h : RequestLaw [] s) {w : Option Work} (slot : ∀ d, w ≠ some (.request d)) :
    Picked x (s, w) := ⟨h, fun d given => absurd given (slot d)⟩

theorem scanSlots_kept (x : Line) (slots : List Slot) (s : State) :
    RequestsKept s (scanSlots x slots s).1 ∧ ∀ d, (scanSlots x slots s).2 ≠ some (.request d) := by
  induction slots generalizing s with
  | nil => exact ⟨.elsewhere rfl rfl, nofun⟩
  | cons slot rest ih =>
    have further {t : State} (kept : RequestsKept s t) := (ih t).imp_left kept.trans
    unfold scanSlots
    split
    · dsimp only
      split
      · exact further (modSweep_kept x _ s)
      · exact further ((modSweep_kept x _ s).trans (setStation_kept _ _ _))
      · exact ⟨.elsewhere rfl rfl, nofun⟩
      · exact ⟨.elsewhere rfl rfl, nofun⟩
    · exact further (modSweep_kept x _ s)

/-- The head of a queue leaves it and becomes ACTIVE (R109). -/
theorem takeHead_picked (u : Urgency) (h : RequestLaw [] s) : Picked x (takeHead x u s) := by
  cases queue : s.fifo x u with
  | nil =>
    simp only [takeHead, queue]
    exact h.picked nofun
  | cons d rest =>
    have head : d ∈ s.fifo x u := queue ▸ List.mem_cons_self
    obtain ⟨_, state, line, urgency⟩ := h.standing x u d head
    have once : (d :: rest).count d = 1 := by
      simpa only [line, urgency, queue] using h.queued d state List.not_mem_nil
    have gone : d ∉ rest := List.count_eq_zero.1 (by simpa using once)
    rw [takeHead_cons queue]
    have left : RequestLaw [d] (s.setFifo x u rest) := h.leave (gone := [d])
      (fun j mem => by rw [List.mem_singleton.1 mem]; exact ⟨head, gone⟩)
      fun j other => by rw [queue, List.count_cons_of_ne (Ne.symm (by simpa using other))]
    refine ⟨left.settled (by simp), fun j given => ?_⟩
    cases given
    simp [line]

theorem endSweep_kept (x : Line) (s : State) : RequestsKept s (endSweep x s) :=
  (ite_kept (post_kept _ s) (.refl s)).trans (modSweep_kept x _ _)

theorem sweepPick_picked (first : Bool) (h : RequestLaw [] s) : Picked x (sweepPick x first s) := by
  unfold sweepPick
  dsimp only
  split
  · exact takeHead_picked _ (h.keep (modSweep_kept x _ s))
  · obtain ⟨kept, slot⟩ := scanSlots_kept x ((s.sweepAt x).live.drop ((s.sweepAt x).pointer - 1)) s
    exact (h.keep kept).picked slot

theorem takeNormal_picked (h : RequestLaw [] s) : Picked x (takeNormal x s) :=
  takeHead_picked _ (h.keep (ite_kept (modSweep_kept x _ s) (.refl s)))

theorem serviceAfterEmptySweep_picked (h : RequestLaw [] s) : Picked x (serviceAfterEmptySweep x s) := by
  unfold serviceAfterEmptySweep
  split
  · exact takeHead_picked _ h
  split
  · exact takeNormal_picked h
  split
  · exact (h.keep (enterGuard_kept x s)).picked nofun
  · exact h.picked nofun

theorem freshSweep_picked (h : RequestLaw [] s) : Picked x (freshSweep x s) := by
  have picked : Picked x (sweepPick x true (startSweep x s)) := sweepPick_picked true (h.keep (modSweep_kept x _ s))
  unfold freshSweep
  split
  · next found => rwa [found] at picked
  · next found =>
    rw [found] at picked
    exact serviceAfterEmptySweep_picked (picked.law.keep (endSweep_kept x _))

theorem service_picked (h : RequestLaw [] s) : Picked x (service x s) := by
  unfold service
  dsimp only
  split
  · exact freshSweep_picked h
  split
  · exact takeHead_picked _ h
  split
  · exact takeNormal_picked h
  split
  · split
    · exact freshSweep_picked h
    · exact (h.keep (enterGuard_kept x s)).picked nofun
  · exact h.picked nofun

theorem pick_picked (h : RequestLaw [] s) : Picked x (pick x s) := by
  have picked := sweepPick_picked (x := x) false h
  unfold pick
  split
  · split
    · next found => rwa [found] at picked
    · next found =>
      rw [found] at picked
      exact service_picked (picked.law.keep (endSweep_kept x _))
  · exact service_picked h
  · exact h.picked nofun

/-- The work of a pick starts its exchange (R49). -/
theorem giveWork_requestLaw {picked : State × Option Work} (h : Picked x picked) :
    RequestLaw [] (giveWork x picked) := by
  unfold giveWork
  split
  · exact h.law
  next work =>
  dsimp only
  rw [exchangeTaken_marked]
  have marked := h.law.keep (modSweep_kept x (fun c =>
    { c with exchangeTaken := if (picked.1.engineAt x).config.mode = .repeating then true else c.exchangeTaken }) _)
  split
  · exact marked.keep (startSlot_kept x _ _ _)
  · obtain ⟨state, line⟩ := h.work _ work
    exact startRequest_requestLaw marked state line

theorem pickAndGive_requestLaw (h : RequestLaw [] s) : RequestLaw [] (pickAndGive x s) :=
  giveWork_requestLaw (pick_picked h)

theorem sweepAndGive_requestLaw (h : RequestLaw [] s) : RequestLaw [] (sweepAndGive x s) :=
  giveWork_requestLaw (freshSweep_picked h)

end

end Sys2Proof.Machine
end

section
/-! The law of the request queues through what happens on a line (R49, R108): the cycle, the guard time's expiry, the
receiver and the supervision expiry. -/

namespace Sys2Proof.Machine

section
variable {s : State} {x : Line}

/-- A guarded change. -/
theorem ite_requestLaw {c : Prop} [Decidable c] {t u : State} (ht : RequestLaw [] t) (hu : RequestLaw [] u) :
    RequestLaw [] (if c then t else u) := by
  split
  · exact ht
  · exact hu

/-! ### The cycle (R39, R42, R44) -/

theorem cycleStart_requestLaw (kind : CycleStartKind) (h : RequestLaw [] s) : RequestLaw [] (cycleStart x kind s) := by
  unfold cycleStart
  split
  · exact h
  · exact sweepAndGive_requestLaw h
  · exact h.keep (modSweep_kept x _ s)
  · exact h.keep (((modSweep_kept x _ s).trans (modEngine_kept rfl)).trans (post_kept _ _))
  · exact h.keep (.trans (modEngine_kept rfl) (post_kept _ _))

theorem cycleTimerExpiry_requestLaw (h : RequestLaw [] s) : RequestLaw [] (cycleTimerExpiry x s) :=
  ite_requestLaw (cycleStart_requestLaw .timer (h.keep (modSweep_kept x _ s))) h

/-! ### The guard time's expiry (R61, R63, R68) -/

theorem goOn_requestLaw (kind : ExchangeKind) (h : RequestLaw [] s) : RequestLaw [] (goOn x kind s) := by
  unfold goOn
  dsimp only
  split
  · split
    · exact h.keep (startSafeCall_kept x s)
    · exact h.keep (enterLine_kept x _ s)
  · split
    · exact pickAndGive_requestLaw h
    · exact h.keep (enterLine_kept x _ s)
    · exact h
    · exact h

theorem guardExpiry_requestLaw (h : RequestLaw [] s) : RequestLaw [] (guardExpiry x s) := by
  cases flight : (s.engineAt x).exchange with
  | none =>
    have rested := h.keep (modEngine_kept (x := x) (f := fun g => { g with exState := .idle, span := none }) rfl)
    rw [guardExpiry_resting flight]
    exact ite_requestLaw (sweepAndGive_requestLaw rested) rested
  | some e =>
    cases closed : e.outcome with
    | none =>
      rw [guardExpiry_waiting flight closed]
      refine h.keep (call_kept ?_)
      split
      · exact .inl rfl
      · exact .inr flight
    | some outcome =>
      by_cases due : retryDue s x e outcome = true
      · rw [guardExpiry_retry flight closed due]
        exact h.keep (call_kept (.inr flight))
      · rw [guardExpiry_ends flight closed due]
        exact goOn_requestLaw _ (handOver_requestLaw outcome h flight)

/-! ### Expiries of spans (R54, R59 to R61, R74) -/

/-- The edges that an effect has landed ahead of stand again behind it (R74). -/
theorem aheadOfEdges_requestLaw (e : FallingEdge) {effect : State → State} (h : RequestLaw [] s)
    (acts : ∀ u, RequestLaw [] u → RequestLaw [] (effect u)) : RequestLaw [] (aheadOfEdges x e effect s) := by
  have rejected : RequestsKept s ((s.setRx x .high).modEngine x fun g => g.rejected e) :=
    (setRx_kept x .high s).trans (modEngine_kept rfl)
  have landed := (acts _ (h.keep rejected)).keep (setRx_kept x (s.pins.rx.get x) _)
  unfold aheadOfEdges
  dsimp only
  split
  · exact landed
  · exact ite_requestLaw (landed.keep (modEngine_kept rfl)) landed

theorem spanReached_requestLaw {state : ExchangeState} {effect : State → State} (h : RequestLaw [] s)
    (acts : ∀ u, RequestLaw [] u → RequestLaw [] (effect u)) : RequestLaw [] (spanReached x state effect s) := by
  unfold spanReached
  dsimp only
  split
  · exact ite_requestLaw (acts s h) h
  · exact ite_requestLaw (ite_requestLaw (aheadOfEdges_requestLaw _ h acts) (h.keep (modEngine_kept rfl))) h

/-! ### The receiver (R53, R56 to R62, R74 to R76, R85) -/

theorem endCalling_kept (x : Line) (e : Exchange) (s : State) : RequestsKept s (endCalling x e s) := by
  have released : RequestsKept s (s.modEngine x fun g => g.released (s.pins.rx.get x)) := modEngine_kept rfl
  unfold endCalling
  dsimp only
  split
  · exact released.trans (modEngine_kept rfl)
  · exact released.trans (modEngine_kept rfl)
  · exact released.trans (modEngine_kept rfl)
  · exact released.trans (closeAttempt_kept x _ _)
  · exact released.trans (closeAttempt_kept x _ _)

theorem callFrameSent_requestLaw (h : RequestLaw [] s) : RequestLaw [] (callFrameSent x s) := by
  unfold callFrameSent
  dsimp only
  split
  · exact ite_requestLaw (ite_requestLaw (endTail_requestLaw h) (h.keep (endCalling_kept x _ s))) h
  · exact h

theorem abortTailEnd_requestLaw (h : RequestLaw [] s) : RequestLaw [] (abortTailEnd x s) :=
  ite_requestLaw (endTail_requestLaw h) h

theorem fallingEdge_carried (g : LineEngine) : g.fallingEdge.carried = g.carried := by
  unfold LineEngine.fallingEdge
  dsimp only
  split <;> rfl

theorem startBitArrival_kept (x : Line) (s : State) : RequestsKept s (startBitArrival x s) :=
  ite_kept (ite_kept ((setRx_kept x .low s).trans (modEngine_kept (fallingEdge_carried _))) (setRx_kept x .low s))
    (.refl s)

theorem pinReturnsHigh_kept (x : Line) (s : State) : RequestsKept s (pinReturnsHigh x s) := by
  by_cases rises : s.pins.rx.get x = .low ∨ (s.engineAt x).insideCharacter = true
  · rw [pinReturnsHigh_rises rises]
    exact (setRx_kept x .high s).trans (modEngine_kept rfl)
  · have kept : pinReturnsHigh x s = s := if_neg rises
    rw [kept]
    exact .refl s

theorem endCharacter_kept (x : Line) (data : Byte) (mark stop : Bool) (s : State) :
    RequestsKept s (endCharacter x data mark stop s) :=
  ite_kept (modEngine_kept rfl) ((setRx_kept x _ s).trans (modEngine_kept rfl))

theorem answerCharacter_kept (x : Line) (e : Exchange) (data : Byte) (stop : Bool) (s : State) :
    RequestsKept s (answerCharacter x e data stop s) := by
  unfold answerCharacter
  dsimp only
  split
  · exact enterDraining_kept x _ s
  split
  · exact enterDraining_kept x _ s
  split
  · exact .trans (modEngine_kept rfl) (closeAttempt_kept x _ _)
  · exact modEngine_kept rfl

theorem strayCharacter_kept (x : Line) (s : State) : RequestsKept s (strayCharacter x s) :=
  .trans (modEngine_kept rfl) (enterGuard_kept x _)

theorem characterReceived_requestLaw (data : Byte) (mark stop : Bool) (h : RequestLaw [] s) :
    RequestLaw [] (characterReceived x data mark stop s) := by
  have ended := h.keep (endCharacter_kept x data mark stop s)
  unfold characterReceived
  dsimp only
  refine ite_requestLaw (ite_requestLaw (endInto_requestLaw _ _ ended) ?_) h
  split
  · exact ended.keep (answerCharacter_kept x _ data stop _)
  · exact ended.keep (modEngine_kept rfl)
  · exact ended.keep (strayCharacter_kept x _)
  · exact ended.keep (strayCharacter_kept x _)
  all_goals exact ended

theorem breakDetected_requestLaw (h : RequestLaw [] s) : RequestLaw [] (breakDetected x s) :=
  ite_requestLaw (endInto_requestLaw _ _ h) h

/-! ### The supervision expiry (R143 to R145) -/

theorem expiryEffect_kept (x : Line) (s : State) : RequestsKept s (expiryEffect x s) := by
  unfold expiryEffect
  split
  · exact .refl s
  · exact modEngine_kept rfl
  · exact .trans (modEngine_kept rfl) (startSafeCall_kept x _)
  · exact enterQuietly_kept x _ s

theorem expiryOnLines_kept (s : State) : RequestsKept s (expiryOnLines s) := by
  have interleaved (rs rs' : List EventRecord) (t : State) : RequestsKept t (interleave rs rs' t).2 :=
    (interleave_aside rs rs' t).kept (by rw [(interleave_spec rs rs' t).1])
  exact (((expiryEffect_kept .a s).trans (expiryEffect_kept .b _)).trans (interleaved _ _ _)).trans (postAll_kept _ _)

theorem supervisionExpiry_kept (s : State) : RequestsKept s (supervisionExpiry s) := by
  refine ite_kept (ite_kept (.trans ?_ (expiryOnLines_kept _)) ?_) (.refl s)
  all_goals exact .elsewhere rfl rfl

end

end Sys2Proof.Machine
end

section
/-! The law of the request queues is kept by the commands, the window, the resets and a microsecond, and so by every
step (R49, R108). -/

namespace Sys2Proof.Machine

/-! ### Commands aside from the requests -/

section
variable (p : TakenCommand) (s : State)

theorem defineStation_kept : RequestsKept s (defineStation p s).state := by
  unfold defineStation
  dsimp only
  repeat' split
  all_goals exact .elsewhere rfl rfl

theorem dropStation_kept : RequestsKept s (dropStation p s).state := by
  unfold dropStation
  dsimp only
  repeat' split
  all_goals exact .elsewhere rfl rfl

theorem enableStation_kept : RequestsKept s (enableStation p s).state := by
  unfold enableStation
  dsimp only
  repeat' split
  all_goals exact .elsewhere rfl rfl

theorem setStationLimits_kept : RequestsKept s (setStationLimits p s).state := by
  unfold setStationLimits
  dsimp only
  repeat' split
  all_goals exact .elsewhere rfl rfl

theorem loadSweep_kept : RequestsKept s (loadSweep p s).state := by
  unfold loadSweep
  dsimp only
  repeat' split
  all_goals exact .elsewhere rfl rfl

theorem setPeriod_kept : RequestsKept s (setPeriod p s).state := by
  unfold setPeriod
  dsimp only
  repeat' split
  all_goals exact .elsewhere rfl rfl

theorem commitCall_kept : RequestsKept s (commitCall p s).state := by
  unfold commitCall
  dsimp only
  repeat' split
  all_goals exact .elsewhere rfl rfl

theorem setSupervision_kept : RequestsKept s (setSupervision p s).state := by
  unfold setSupervision
  dsimp only
  repeat' split
  all_goals exact .elsewhere rfl rfl

theorem closeOpenView_kept : RequestsKept s (closeOpenView s) := by
  unfold closeOpenView
  dsimp only
  repeat' split
  all_goals exact .elsewhere rfl rfl

theorem unknownCommand_kept : RequestsKept s (unknownCommand s) := by
  unfold unknownCommand
  split
  · exact ite_kept (.refl s) (finish_kept (refuse s .unknownCommand 0))
  · exact .refl s

theorem setLine_kept : RequestsKept s (setLine p s).state := by
  unfold setLine
  dsimp only
  split
  · exact .refl s
  split
  · exact .refl s
  · dsimp only
    exact .trans (modEngine_kept rfl) (modSweep_kept _ _ _)

theorem stopLine_kept : RequestsKept s (stopLine p s).state := by
  unfold stopLine
  dsimp only
  split
  · exact .refl s
  split
  · exact .refl s
  split
  · exact enterLine_kept _ _ s
  · dsimp only
    exact modEngine_kept rfl

/-- A line that is started carries nothing (R131). -/
theorem startedLine_kept (x : Line) (s : State) : RequestsKept s (startedLine x s) := by
  unfold startedLine
  exact (RequestsKept.trans (modEngine_dropped rfl) (modSweep_kept x _ _)).trans (enterGuard_kept x _)

end

/-! ### Commands that act on a line -/

section
variable {s : State} (p : TakenCommand)

theorem completeCommand_requestLaw (code : Byte) {body : TakenCommand → State → Completion} (h : RequestLaw [] s)
    (acts : ∀ p, RequestLaw [] (body p s).state) : RequestLaw [] (completeCommand code body s) := by
  unfold completeCommand
  split
  · exact (acts _).keep (finish_kept _)
  · exact h

theorem startLine_requestLaw (h : RequestLaw [] s) : RequestLaw [] (startLine p s).state := by
  have started := h.keep (startedLine_kept (lineOfNat (fieldOf p.param0 0 8)) s)
  unfold startLine
  dsimp only
  split
  · exact h
  split
  · exact h
  split
  · exact h
  split
  · exact h
  · exact ite_requestLaw (pickAndGive_requestLaw started) (sweepAndGive_requestLaw started)

theorem abortLine_requestLaw (h : RequestLaw [] s) : RequestLaw [] (abortLine p s).state := by
  unfold abortLine
  dsimp only
  split
  · exact h
  split
  · exact h
  split
  · exact h
  split
  · dsimp only
    exact h.keep (modEngine_kept rfl)
  · exact endInto_requestLaw _ _ h

theorem sweepNow_requestLaw (h : RequestLaw [] s) : RequestLaw [] (sweepNow p s).state := by
  unfold sweepNow
  dsimp only
  split
  · exact h
  split
  · exact h
  split
  · exact h
  · exact cycleStart_requestLaw .sweepNow h

end

/-! ### Commands that act on requests (R18, R110, R112 to R125) -/

section
variable {s : State} {d : Fin 16} (p : TakenCommand)

/-- A resting descriptor is set QUEUED, its answer cleared, and joins its queue (R113). -/
theorem RequestLaw.enqueued (h : RequestLaw [] s) (unqueued : (s.descriptorAt d).state ≠ .queued)
    (inactive : (s.descriptorAt d).state ≠ .active) {r : Descriptor} (state : r.state = .queued)
    (answer : RequestAnswer) :
    RequestLaw [] (((s.setDescriptor d r).setRequestAnswer d answer).setFifo r.line r.urgency
      (s.fifo r.line r.urgency ++ [d])) := by
  have aside : RequestLaw [d] ((s.setDescriptor d r).setRequestAnswer d answer) :=
    ((h.withdraw_resting unqueued inactive).setDescriptor r).keep (.elsewhere rfl rfl)
  simpa using aside.join (by simpa using state) rfl rfl

/-- The descriptor POST_REQUEST takes was FREE or OPEN (R112), so it stood in no queue and in no exchange. -/
theorem enqueue_requestLaw {target : Target} (h : RequestLaw [] s) (free : postRefusal s d target = none)
    (functionCode tag : Byte) (u : Urgency) (answerMax : Nat) :
    RequestLaw [] (enqueue d target functionCode tag u answerMax s) := by
  unfold enqueue
  refine h.enqueued ?_ ?_ ?_ _
  · exact fun queued => nomatch (postRefusal_taken target (.inl queued)).symm.trans free
  · exact fun active => nomatch (postRefusal_taken target (.inr (.inl active))).symm.trans free
  · rfl

theorem postRequest_requestLaw (h : RequestLaw [] s) : RequestLaw [] (postRequest p s).state := by
  unfold postRequest
  dsimp only
  split
  · exact h
  split
  · exact h
  next free =>
  have queued := enqueue_requestLaw h free (loByte p.param1) (loByte p.param2) (urgencyOfNat (fieldOf p.param1 8 8))
    (fieldOf p.param2 8 8)
  exact ite_requestLaw (pickAndGive_requestLaw queued) queued

/-- A QUEUED descriptor leaves its queue (R121). -/
theorem leaveFifo_requestLaw (h : RequestLaw [] s) (queued : (s.descriptorAt d).state = .queued) :
    RequestLaw [d] (leaveFifo d s) := by
  have stood : d ∈ s.fifo (s.descriptorAt d).line (s.descriptorAt d).urgency :=
    List.count_pos_iff.1 (by simp [h.queued d queued])
  refine h.leave (gone := [d]) (fun j mem => ?_) fun j other => List.count_filter (by simpa using other)
  rw [List.mem_singleton.1 mem]
  exact ⟨stood, by simp⟩

theorem cancelRequest_requestLaw (h : RequestLaw [] s) : RequestLaw [] (cancelRequest p s).state := by
  unfold cancelRequest
  dsimp only
  split
  · exact h
  split
  · exact h
  · exact h
  · exact h
  · next queued => exact completeQueued_requestLaw (leaveFifo_requestLaw h queued) _
  · split
    · exact h
    · exact h.noted rfl rfl rfl

theorem emptyFifos_requestLaw (x : Line) (which : Nat) (h : RequestLaw [] s) :
    RequestLaw (flushed s x which) (emptyFifos x which s) := by
  unfold flushed emptyFifos
  dsimp only
  split <;> split
  · exact (h.leave_all x .urgent).leave_all x .normal
  · rw [List.append_nil]
    exact h.leave_all x .urgent
  · exact h.leave_all x .normal
  · exact h

theorem flushRequests_requestLaw (h : RequestLaw [] s) : RequestLaw [] (flushRequests p s).state := by
  unfold flushRequests
  dsimp only
  split
  · exact h
  · exact completeAllQueued_requestLaw _ _ _ (emptyFifos_requestLaw _ _ h)

theorem collectRequest_requestLaw (h : RequestLaw [] s) : RequestLaw [] (collectRequest p s).state := by
  have collected {d : Fin 16} (unqueued : (s.descriptorAt d).state ≠ .queued)
      (inactive : (s.descriptorAt d).state ≠ .active) :
      RequestLaw [] (s.setDescriptor d (s.descriptorAt d).collected) :=
    (h.withdraw_resting unqueued inactive).settled nofun
  unfold collectRequest
  dsimp only
  split
  · exact h
  split
  · exact h
  · exact h
  · exact h
  all_goals
    next state =>
    split
    · exact h
    · exact collected (by simp [state]) (by simp [state])

theorem removeQueuedFor_requestLaw (x : Line) (i : Fin 32) (h : RequestLaw [] s) :
    RequestLaw (queuedFor s x i) (removeQueuedFor s x i) :=
  (h.leave_filter x .urgent (targetsStation s i)).leave_filter x .normal (targetsStation s i)

theorem RequestsKept.queuedFor {t : State} (kept : RequestsKept s t) (x : Line) (i : Fin 32) :
    queuedFor t x i = queuedFor s x i := by
  have targets : targetsStation t i = targetsStation s i := funext fun d => by
    rw [targetsStation, kept.descriptorAt, targetsStation]
  rw [Machine.queuedFor, kept.fifo, kept.fifo, targets, Machine.queuedFor]

theorem disableStation_requestLaw (h : RequestLaw [] s) : RequestLaw [] (disableStation p s).state := by
  unfold disableStation
  dsimp only
  split
  · exact h
  split
  · exact h
  generalize stationOfNat (fieldOf p.param0 0 8) = i
  have moved : RequestsKept s (if (s.stationAt i).health = .disabled then s
      else post (stationStateRecord s i (s.stationAt i).line .disabled (s.stationAt i).health)
        (s.setStation i { s.stationAt i with health := .disabled, failureCount := 0 })) :=
    ite_kept (.refl s) (.elsewhere rfl rfl)
  rw [← moved.queuedFor]
  exact completeAllQueued_requestLaw _ _ _ (removeQueuedFor_requestLaw _ i (h.keep moved))

/-- OPEN_VIEW may make a FREE descriptor OPEN (R110). -/
theorem reserveDescriptor_requestLaw (v : OpenView) (h : RequestLaw [] s) :
    RequestLaw [] (reserveDescriptor v s) := by
  unfold reserveDescriptor
  split
  · split
    · next free => exact (h.withdraw_resting (by simp [free]) (by simp [free])).settled nofun
    · exact h
  · exact h

theorem openView_requestLaw (h : RequestLaw [] s) : RequestLaw [] (openView p s).state := by
  unfold openView
  split
  · exact h
  split
  · exact h
  · exact (reserveDescriptor_requestLaw _ (h.keep (closeOpenView_kept s))).keep (.elsewhere rfl rfl)

end

/-! ### The window -/

section
variable (lanes : Lanes) (data : Word) (s : State)

theorem takeCommand_kept (cmd : Word) : RequestsKept s (takeCommand cmd s) := by
  refine ite_kept (.trans (.trans ?_ (endQuietly_kept .a _)) (endQuietly_kept .b _)) ?_
  all_goals exact .elsewhere rfl rfl

theorem cmdWrite_kept : RequestsKept s (cmdWrite lanes data s) := by
  unfold cmdWrite
  dsimp only
  split
  · exact takeCommand_kept s _
  · exact takeCommand_kept s _
  · exact .elsewhere rfl rfl

theorem intClaim_kept : RequestsKept s (intClaim lanes s) := by
  unfold intClaim
  dsimp only
  split <;> exact .elsewhere rfl rfl

theorem intEos_kept : RequestsKept s (intEos s) := by
  unfold intEos
  split <;> exact .elsewhere rfl rfl

theorem intSvcWrite_kept : RequestsKept s (intSvcWrite lanes data s) :=
  ite_kept (ite_kept (.elsewhere rfl rfl) (.elsewhere rfl rfl)) (.refl s)

theorem intStatusRead_kept : RequestsKept s (intStatusRead lanes s) :=
  ite_kept (.elsewhere rfl rfl) (.elsewhere rfl rfl)

theorem intPendWrite_kept : RequestsKept s (intPendWrite lanes data s) :=
  ite_kept (.elsewhere rfl rfl) (.refl s)

theorem supvRefresh_kept : RequestsKept s (supvRefresh s) := ite_kept (.elsewhere rfl rfl) (.refl s)

theorem writePortByte_kept (offset b : Byte) : RequestsKept s (writePortByte offset b s) := by
  unfold writePortByte
  split <;> exact .elsewhere rfl rfl

theorem driveData_kept : RequestsKept s (driveData lanes data s) := .elsewhere rfl rfl

theorem advanceOffset_kept : RequestsKept s (advanceOffset lanes s) := ite_kept (.elsewhere rfl rfl) (.refl s)

theorem dataRead_kept : RequestsKept s (dataRead lanes s) :=
  ite_kept
    (((driveData_kept lanes (aheadWord lanes (currentAhead s)) s).trans (advanceOffset_kept lanes _)).trans
      (.elsewhere rfl rfl))
    (driveData_kept lanes 0 s)

theorem dataWrite_kept : RequestsKept s (dataWrite lanes data s) := by
  refine ite_kept (.trans (.trans ?_ (advanceOffset_kept lanes _)) (.elsewhere rfl rfl)) (.refl s)
  cases lanes with
  | word => exact (writePortByte_kept s _ _).trans (writePortByte_kept _ _ _)
  | low | high => exact writePortByte_kept s _ _

theorem viewOffsetWrite_kept : RequestsKept s (viewOffsetWrite lanes data s) :=
  ite_kept (.elsewhere rfl rfl) (.refl s)

theorem windowWrite_kept (address : WindowAddress) : RequestsKept s (windowWrite address lanes data s) := by
  unfold windowWrite
  cases writableAt address with
  | none => exact .refl s
  | some register =>
    cases register with
    | cmd => exact cmdWrite_kept lanes data s
    | param0 | param1 | param2 | param3 | evtAdvance | intLevels0 | intLevels1 => exact .elsewhere rfl rfl
    | viewOffset => exact viewOffsetWrite_kept lanes data s
    | data => exact dataWrite_kept lanes data s
    | intEos => exact intEos_kept s
    | intSvc => exact intSvcWrite_kept lanes data s
    | intPend => exact intPendWrite_kept lanes data s
    | supvRefresh => exact supvRefresh_kept s

end

/-! ### Resets, time, and the step -/

theorem requestLaw_reset : RequestLaw [] State.reset := by
  obtain ⟨_, _, _, _, _, _, queues, exchanges, _⟩ := lawsHoldAtReset
  exact requestLaw_iff.2 ⟨queues, exchanges⟩

/-- A reset's blocks are those of `State.reset` (R127, R186, R187). -/
theorem resetBlocks_requestLaw (s : State) : RequestLaw [] (resetBlocks s) :=
  requestLaw_reset.keep (.elsewhere rfl rfl)

theorem softReset_requestLaw {s : State} (h : RequestLaw [] s) : RequestLaw [] (softReset s) :=
  ite_requestLaw ((resetBlocks_requestLaw s).keep (.elsewhere rfl rfl)) h

/-- A microsecond moves a line's timers, and no exchange (log 2). -/
theorem tick_carried (g : LineEngine) (rx : PinLevel) : (g.tick rx).carried = g.carried := by
  unfold LineEngine.tick LineEngine.sampled
  split
  · rfl
  split
  · rfl
  split
  · rfl
  · unfold LineEngine.sampledHigh
    split <;> rfl

theorem tick_kept (s : State) : RequestsKept s (tick s) where
  pool := by rw [tick_frame]
  carried x := .inr (by rw [tick_engineAt, tick_carried])

/-- Every command keeps the law of the requests. -/
theorem exec_requestLaw (c : Instr) {s : State} (h : RequestLaw [] s) : ∃ t, exec c s = .next t ∧ RequestLaw [] t := by
  have acts (code : Byte) {body : TakenCommand → State → Completion} (acts : ∀ p, RequestLaw [] (body p s).state) :
      RequestLaw [] (completeCommand code body s) := completeCommand_requestLaw code h acts
  have aside (code : Byte) {body : TakenCommand → State → Completion} (kept : ∀ p, RequestsKept s (body p s).state) :
      RequestLaw [] (completeCommand code body s) := acts code fun p => h.keep (kept p)
  have window {c : Prop} [Decidable c] {t : State} (kept : RequestsKept s t) : RequestLaw [] (if c then t else s) :=
    h.keep (ite_kept kept (.refl s))
  have driven {c : Prop} [Decidable c] {t : State} (lanes : Lanes) (kept : RequestsKept s t) :
      RequestLaw [] (if c then t else driveData lanes 0 s) := h.keep (ite_kept kept (driveData_kept lanes 0 s))
  cases c with
  | defineStation => exact ⟨_, rfl, aside _ (defineStation_kept · s)⟩
  | dropStation => exact ⟨_, rfl, aside _ (dropStation_kept · s)⟩
  | enableStation => exact ⟨_, rfl, aside _ (enableStation_kept · s)⟩
  | disableStation => exact ⟨_, rfl, acts _ (disableStation_requestLaw · h)⟩
  | setStationLimits => exact ⟨_, rfl, aside _ (setStationLimits_kept · s)⟩
  | loadSweep => exact ⟨_, rfl, aside _ (loadSweep_kept · s)⟩
  | setLine => exact ⟨_, rfl, aside _ (setLine_kept · s)⟩
  | setPeriod => exact ⟨_, rfl, aside _ (setPeriod_kept · s)⟩
  | startLine => exact ⟨_, rfl, acts _ (startLine_requestLaw · h)⟩
  | stopLine => exact ⟨_, rfl, aside _ (stopLine_kept · s)⟩
  | abortLine => exact ⟨_, rfl, acts _ (abortLine_requestLaw · h)⟩
  | sweepNow => exact ⟨_, rfl, acts _ (sweepNow_requestLaw · h)⟩
  | postRequest => exact ⟨_, rfl, acts _ (postRequest_requestLaw · h)⟩
  | cancelRequest => exact ⟨_, rfl, acts _ (cancelRequest_requestLaw · h)⟩
  | flushRequests => exact ⟨_, rfl, acts _ (flushRequests_requestLaw · h)⟩
  | collectRequest => exact ⟨_, rfl, acts _ (collectRequest_requestLaw · h)⟩
  | commitCall => exact ⟨_, rfl, aside _ (commitCall_kept · s)⟩
  | openView => exact ⟨_, rfl, acts _ (openView_requestLaw · h)⟩
  | closeView => exact ⟨_, rfl, aside _ fun _ => closeOpenView_kept s⟩
  | setSupervision => exact ⟨_, rfl, aside _ (setSupervision_kept · s)⟩
  | softReset => exact ⟨_, rfl, softReset_requestLaw h⟩
  | unknownCommand => exact ⟨_, rfl, h.keep (unknownCommand_kept s)⟩
  | commandCollision lanes data => exact ⟨_, rfl, window (cmdWrite_kept lanes data s)⟩
  | commandTake lanes data => exact ⟨_, rfl, window (cmdWrite_kept lanes data s)⟩
  | evtAdvance _ _ => exact ⟨_, rfl, window (.elsewhere rfl rfl)⟩
  | intClaim lanes => exact ⟨_, rfl, driven lanes (intClaim_kept lanes s)⟩
  | intEos _ _ => exact ⟨_, rfl, window (intEos_kept s)⟩
  | intSvcWrite lanes data => exact ⟨_, rfl, window (intSvcWrite_kept lanes data s)⟩
  | intStatusRead lanes => exact ⟨_, rfl, driven lanes (intStatusRead_kept lanes s)⟩
  | intPendWrite lanes data => exact ⟨_, rfl, window (intPendWrite_kept lanes data s)⟩
  | intLevelsWrite _ _ _ => exact ⟨_, rfl, window (.elsewhere rfl rfl)⟩
  | supvRefresh _ _ => exact ⟨_, rfl, window (supvRefresh_kept s)⟩
  | dataRead lanes => exact ⟨_, rfl, driven lanes (dataRead_kept lanes s)⟩
  | dataWrite lanes data => exact ⟨_, rfl, window (dataWrite_kept lanes data s)⟩
  | viewOffsetWrite lanes data => exact ⟨_, rfl, window (viewOffsetWrite_kept lanes data s)⟩
  | registerWrite address lanes data => exact ⟨_, rfl, window (windowWrite_kept lanes data s address)⟩
  | pinResetAssert => exact ⟨_, rfl, ite_requestLaw (resetBlocks_requestLaw _) h⟩
  | pinResetRelease => exact ⟨_, rfl, ite_requestLaw (resetBlocks_requestLaw _) h⟩
  | readyAfterReset => exact ⟨_, rfl, window (.elsewhere rfl rfl)⟩
  | syncFallingEdge x => exact ⟨_, rfl, ite_requestLaw (cycleStart_requestLaw .sync h) h⟩
  | characterReceived x data mark stop => exact ⟨_, rfl, characterReceived_requestLaw data mark stop h⟩
  | callFrameSent x => exact ⟨_, rfl, callFrameSent_requestLaw h⟩
  | abortTailEnd x => exact ⟨_, rfl, abortTailEnd_requestLaw h⟩
  | answerTimeout x => exact ⟨_, rfl, spanReached_requestLaw h fun _ hu => hu.keep (closeAttempt_kept x _ _)⟩
  | gapLimitExpiry x => exact ⟨_, rfl, spanReached_requestLaw h fun _ hu => hu.keep (closeAttempt_kept x _ _)⟩
  | drainSilenceEnd x => exact ⟨_, rfl, spanReached_requestLaw h fun _ hu => hu.keep (enterGuard_kept x _)⟩
  | guardTimeExpiry x => exact ⟨_, rfl, spanReached_requestLaw h fun _ => guardExpiry_requestLaw⟩
  | breakDetected x => exact ⟨_, rfl, breakDetected_requestLaw h⟩
  | cycleTimerExpiry x => exact ⟨_, rfl, cycleTimerExpiry_requestLaw h⟩
  | supervisionExpiry => exact ⟨_, rfl, h.keep (supervisionExpiry_kept s)⟩
  | startBitArrival x => exact ⟨_, rfl, h.keep (startBitArrival_kept x s)⟩
  | pinReturnsHigh x => exact ⟨_, rfl, h.keep (pinReturnsHigh_kept x s)⟩

/-- Settles O12: the law does not read the command queue, and every command and every microsecond keeps it. -/
theorem requestQueueLawKept : Obligations.RequestQueueLawKept := by
  intro s t h queues exchanges
  have law : RequestLaw [] s := requestLaw_iff.2 ⟨queues, exchanges⟩
  rw [← requestLaw_iff]
  obtain ⟨c, rest, _, ran⟩ | ⟨_, rfl⟩ := step_cases h
  · obtain ⟨u, next, lawful⟩ := exec_requestLaw c (s := { s with pending := rest }) (law.keep (.elsewhere rfl rfl))
    cases ran.symm.trans next
    exact lawful
  · exact law.keep (tick_kept s)

end Sys2Proof.Machine
end

section
/-! The entry into STOPPED or HALTED (R136, R137): the commits it takes (R94, R95), the records it posts and the frame
of the whole step. -/

namespace Sys2Proof.Machine

/-! ### Several commits taken (R94) -/

theorem swapCommit_stationAt (i j : Fin 32) (s : State) :
    (swapCommit i s).stationAt j = if j = i then { s.stationAt i with commitPending := false } else s.stationAt j := by
  rw [swapCommit, stationAt_setStation, setCallPair_stationAt]

theorem swapCommit_callPairAt (i j : Fin 32) (s : State) :
    (swapCommit i s).callPairAt j = if j = i then (s.callPairAt i).swap else s.callPairAt j := by
  rw [swapCommit, setStation_callPairAt, callPairAt_setCallPair]

/-- Swaps touch the stations' records and the call pairs alone. -/
theorem swapCommits_frame (is : List (Fin 32)) (s : State) :
    swapCommits is s =
      { s with stations := (swapCommits is s).stations,
               store := { s.store with calls := (swapCommits is s).store.calls } } := by
  induction is generalizing s with
  | nil => rfl
  | cons i rest ih => exact ih (swapCommit i s)

theorem swapCommits_stationAt (is : List (Fin 32)) (s : State) (j : Fin 32) :
    (swapCommits is s).stationAt j =
      if j ∈ is then { s.stationAt j with commitPending := false } else s.stationAt j := by
  induction is generalizing s with
  | nil => rfl
  | cons i rest ih =>
    rw [swapCommits, ih, swapCommit_stationAt]
    by_cases here : j = i
    · subst here
      simp
    · simp [here]

/-- A list that names no station twice swaps each named pair once. -/
theorem swapCommits_callPairAt {is : List (Fin 32)} (distinct : is.Nodup) (s : State) (j : Fin 32) :
    (swapCommits is s).callPairAt j = if j ∈ is then (s.callPairAt j).swap else s.callPairAt j := by
  induction is generalizing s with
  | nil => rfl
  | cons i rest ih =>
    obtain ⟨absent, distinct⟩ := List.nodup_cons.1 distinct
    rw [swapCommits, ih distinct, swapCommit_callPairAt]
    by_cases here : j = i
    · subst here
      simp [absent]
    · simp [here]

theorem mem_pendingCommits {s : State} {x : Line} {i : Fin 32} :
    i ∈ pendingCommits s x ↔ (s.stationAt i).commitPending = true ∧ (s.stationAt i).line = x := by
  simp [pendingCommits]

theorem pendingCommits_nodup (s : State) (x : Line) : (pendingCommits s x).Nodup := (List.nodup_finRange 32).filter _

/-! ### Records posted (R149, R155, R160) -/

/-- Where IRQ stands decided, posting decides it anew at the count then held. -/
theorem postAll_settled (rs : List EventRecord) {s : State} {a : Arbiter}
    (decided : s.arbiter = a.settled s.events.records.length) :
    postAll rs s =
      { s with events := rs.foldl EventQueue.arrive s.events,
               arbiter := a.settled (rs.foldl EventQueue.arrive s.events).records.length } := by
  induction rs generalizing s with
  | nil => rw [List.foldl_nil, ← decided]; rfl
  | cons r rest ih =>
    have posted :
        s.arbiter.settled (s.events.arrive r).records.length = a.settled (s.events.arrive r).records.length := by
      rw [decided]
      rfl
    exact ih (s := post r s) posted

/-- A record posted decides IRQ, however it stood. -/
theorem postAll_ne_nil {rs : List EventRecord} (some : rs ≠ []) (s : State) :
    postAll rs s =
      { s with events := rs.foldl EventQueue.arrive s.events,
               arbiter := s.arbiter.settled (rs.foldl EventQueue.arrive s.events).records.length } := by
  cases rs with
  | nil => exact absurd rfl some
  | cons r rest => exact postAll_settled rest (s := post r s) rfl

/-! ### The entry less its records (R136 steps 1 to 4) -/

/-- An entry into HALTED makes the line's interrupt source pending (R136 step 4). -/
def EntryTarget.halts : EntryTarget → Bool
  | .stopped => false
  | .halted _ => true

/-- The line's pending flag behind an entry (R136, R157). -/
def EntryTarget.flagged (target : EntryTarget) (x : Line) (a : Arbiter) : Arbiter :=
  { a with pendingLineA := a.pendingLineA || target.halts && decide (x = .a),
           pendingLineB := a.pendingLineB || target.halts && decide (x = .b) }

section
variable (x : Line) (target : EntryTarget) (s : State)

theorem EntryTarget.flagged_halted (cause : HaltCause) (a : Arbiter) :
    (EntryTarget.halted cause).flagged x a = a.withFlag (lineSource x) true := by
  cases x <;> simp [EntryTarget.flagged, EntryTarget.halts, Arbiter.withFlag, lineSource]

theorem EntryTarget.flagged_stopped (a : Arbiter) : EntryTarget.stopped.flagged x a = a := by
  simp [EntryTarget.flagged, EntryTarget.halts]

/-- The entry touches the lines, the stations' records, the call pairs and the arbiter alone. -/
theorem enterQuietly_frame :
    enterQuietly x target s =
      { s with engine := (enterQuietly x target s).engine, sweep := (enterQuietly x target s).sweep,
               stations := (enterQuietly x target s).stations,
               store := { s.store with calls := (enterQuietly x target s).store.calls },
               arbiter := (enterQuietly x target s).arbiter } := by
  cases target with
  | stopped | halted =>
    unfold enterQuietly
    dsimp only
    rw [swapCommits_frame]
    rfl

/-- Behind the sweep abandoned and the engine entered no step of the entry touches a line. -/
theorem enterQuietly_aside :
    Aside ((s.modEngine x fun g => g.entered target).modSweep x SweepController.abandoned)
      (enterQuietly x target s) := by
  cases target with
  | stopped => exact swapCommits_aside _ _
  | halted cause => exact (swapCommits_aside (pendingCommits s x) _).trans ⟨rfl, rfl, rfl⟩

theorem enterQuietly_engineAt (y : Line) :
    (enterQuietly x target s).engineAt y = if y = x then (s.engineAt x).entered target else s.engineAt y := by
  rw [(enterQuietly_aside x target s).engineAt, modSweep_engineAt, engineAt_modEngine]

theorem enterQuietly_sweepAt (y : Line) :
    (enterQuietly x target s).sweepAt y = if y = x then (s.sweepAt x).abandoned else s.sweepAt y := by
  rw [(enterQuietly_aside x target s).sweepAt, sweepAt_modSweep, modEngine_sweepAt, modEngine_sweepAt]

theorem enterQuietly_stationAt (i : Fin 32) :
    (enterQuietly x target s).stationAt i =
      if i ∈ pendingCommits s x then { s.stationAt i with commitPending := false } else s.stationAt i := by
  cases target with
  | stopped | halted => exact swapCommits_stationAt (pendingCommits s x) _ i

theorem enterQuietly_callPairAt (i : Fin 32) :
    (enterQuietly x target s).callPairAt i =
      if i ∈ pendingCommits s x then (s.callPairAt i).swap else s.callPairAt i := by
  cases target with
  | stopped | halted => exact swapCommits_callPairAt (pendingCommits_nodup s x) _ i

theorem enterQuietly_events : (enterQuietly x target s).events = s.events := by rw [enterQuietly_frame]

/-- An entry into HALTED sets the line's flag and decides IRQ (R136, R160). -/
theorem enterQuietly_halted_arbiter (cause : HaltCause) :
    (enterQuietly x (.halted cause) s).arbiter =
      ((EntryTarget.halted cause).flagged x s.arbiter).settled s.events.records.length := by
  rw [EntryTarget.flagged_halted, enterQuietly, swapCommits_frame]
  rfl

theorem enterQuietly_settled (n : Nat) :
    (enterQuietly x target s).arbiter.settled n = (target.flagged x s.arbiter).settled n := by
  cases target with
  | stopped =>
    rw [EntryTarget.flagged_stopped, enterQuietly, swapCommits_frame]
    rfl
  | halted cause =>
    rw [enterQuietly_halted_arbiter]
    rfl

/-! ### The records of an entry (R95, R137) -/

theorem entryRecords_ne_nil : entryRecords x target s ≠ [] := by simp [entryRecords]

/-- The records with the line and its sweep count written out: every station that takes a commit lies on the line. -/
theorem entryRecords_eq :
    entryRecords x target s =
      (pendingCommits s x).map (fun i =>
        { kind := .commitTaken, line := some x, index := some i.val, tag := none,
          code := some (byteOf (s.callPairAt i).staged.length), aux := some 0x02, stamp := (s.sweepAt x).count })
        ++ [{ kind := .lineState, line := some x, index := none, tag := none,
              code := some (if target.halts then 0x03 else 0x00),
              aux := some (match target with | .stopped => 0x00 | .halted cause => haltCauseCode cause),
              stamp := (s.sweepAt x).count }] := by
  unfold entryRecords
  congr 1
  · refine List.map_congr_left fun i mem => ?_
    rw [commitTakenRecord, (mem_pendingCommits.1 mem).2]
  · cases target with
    | stopped | halted => rfl

/-! ### The entry whole -/

/-- The entry is its quiet part with the records posted behind it. -/
theorem enterLine_eq :
    enterLine x target s =
      { enterQuietly x target s with
        events := (entryRecords x target s).foldl EventQueue.arrive s.events,
        arbiter := (target.flagged x s.arbiter).settled
          ((entryRecords x target s).foldl EventQueue.arrive s.events).records.length } := by
  rw [enterLine, postAll_ne_nil (entryRecords_ne_nil x target s), enterQuietly_settled, enterQuietly_events]

end

/-- Settles O34: the quiet part field by field, then the records behind it. -/
theorem entryIntoRest : Obligations.EntryIntoRest := by
  intro s x y target other
  dsimp only
  rw [enterLine_eq]
  refine ⟨?_, ?_, ?_, ?_, fun i => ⟨fun commits => ?_, fun absent => ?_⟩, ?_, ?_, ?_⟩
  · exact (enterQuietly_engineAt x target s x).trans (if_pos rfl)
  · exact (enterQuietly_sweepAt x target s x).trans (if_pos rfl)
  · exact (enterQuietly_engineAt x target s y).trans (if_neg other)
  · exact (enterQuietly_sweepAt x target s y).trans (if_neg other)
  · have taken : i ∈ pendingCommits s x := mem_pendingCommits.2 (by simpa using commits)
    have swapped := (enterQuietly_callPairAt x target s i).trans (if_pos taken)
    exact ⟨(enterQuietly_stationAt x target s i).trans (if_pos taken), by rw [← CallPair.live_swap, ← swapped]; rfl,
      by rw [← CallPair.staged_swap, ← swapped]; rfl⟩
  · have kept : i ∉ pendingCommits s x := fun taken => by
      obtain ⟨pending, line⟩ := mem_pendingCommits.1 taken
      simp [pending, line] at absent
    exact ⟨(enterQuietly_stationAt x target s i).trans (if_neg kept),
      (enterQuietly_callPairAt x target s i).trans (if_neg kept)⟩
  · rw [entryRecords_eq]
    cases target with
    | stopped | halted => rfl
  · cases target with
    | stopped | halted => rfl
  · rw [enterQuietly_frame]

end Sys2Proof.Machine
end

section
/-! The line commands (R130 to R134): what SET_LINE checks and stores, and what START_LINE, STOP_LINE and ABORT_LINE do
once the line they name is in range. -/

namespace Sys2Proof.Machine

/-! ### Lines in service -/

section
variable {g : LineEngine}

/-- A line whose service is over and whose wind-down is none (R130, R131). -/
theorem LineEngine.inService_resting (resting : g.control = .stopped ∨ g.control = .halted)
    (quiet : g.windDown = false) : g.inService = false := by
  obtain control | control := resting <;> simp [inService, control, quiet]

theorem LineEngine.inService_of (active : g.control = .running ∨ g.control = .stopping ∨ g.windDown = true) :
    g.inService = true := by
  simpa [inService, or_assoc] using active

end

/-! ### SET_LINE (R130) -/

/-- The eight parameters of SET_LINE, each in range (R130, R189). -/
def lineInRange (p : TakenCommand) : List Bool :=
  [fieldOf p.param0 8 2 < 2, true, 22 ≤ fieldOf p.param1 0 12, 1 ≤ fieldOf p.param2 0 8, 22 ≤ fieldOf p.param2 8 8,
    true, 1 ≤ fieldOf p.param0 12 3 ∧ fieldOf p.param0 12 3 ≤ 4, 100 ≤ p.param3.toNat]

/-- The range of each parameter of SET_LINE by its position (R130). -/
def TakenCommand.lineAt (p : TakenCommand) : Nat → Prop
  | 1 => fieldOf p.param0 8 2 < 2
  | 3 => 22 ≤ fieldOf p.param1 0 12
  | 4 => 1 ≤ fieldOf p.param2 0 8
  | 5 => 22 ≤ fieldOf p.param2 8 8
  | 7 => 1 ≤ fieldOf p.param0 12 3 ∧ fieldOf p.param0 12 3 ≤ 4
  | 8 => 100 ≤ p.param3.toNat
  | _ => True

section
variable {p : TakenCommand} {s : State}

theorem lineInRange_iff {k : Nat} (hk : k < (lineInRange p).length) : (lineInRange p)[k] = true ↔ p.lineAt (k + 1) := by
  match k with
  | 0 | 2 | 3 | 4 | 6 | 7 => exact decide_eq_true_iff
  | 1 | 5 => exact iff_of_true rfl trivial
  | n + 8 => exact absurd hk (by simp [lineInRange])

theorem lineInRange_some {position : Nat} (before : ∀ k, k < position → p.lineAt k) (bad : ¬ p.lineAt position) :
    firstOutOfRange (lineInRange p) = some position := by
  have bounds : 1 ≤ position ∧ position ≤ 8 := by
    match position with
    | 0 | n + 9 => exact absurd trivial bad
    | 1 | 2 | 3 | 4 | 5 | 6 | 7 | 8 => decide
  exact firstOutOfRange_eq_some (fun k => lineInRange_iff) bounds.1 bounds.2 before bad

theorem lineInRange_none (inRange : ∀ k, p.lineAt k) : firstOutOfRange (lineInRange p) = none :=
  firstOutOfRange_eq_none fun b mem => by
    obtain ⟨k, hk, rfl⟩ := List.mem_iff_getElem.1 mem
    exact (lineInRange_iff hk).2 (inRange (k + 1))

theorem setLine_badParam {position : Nat} (h : firstOutOfRange (lineInRange p) = some position) :
    setLine p s = refuse s .badParam position := by
  unfold setLine configOf
  unfold lineInRange at h
  simp only [h]

/-- With its parameters in range SET_LINE asks whether the line is in service (R130). -/
theorem setLine_inRange (h : firstOutOfRange (lineInRange p) = none) :
    setLine p s =
      if (s.engineAt (lineOfNat (fieldOf p.param0 8 2))).inService = true then refuse s .wrongState 0
      else
        { state :=
            (s.modEngine (lineOfNat (fieldOf p.param0 8 2)) fun g =>
              { g.clearCounters with config := configOf p, configured := true }).modSweep
              (lineOfNat (fieldOf p.param0 8 2)) fun c =>
                { c with period := p.param3.toNat, counter := p.param3.toNat, timerRunning := false },
          result := .ok, detail := 0 } := by
  unfold setLine configOf
  unfold lineInRange at h
  simp only [h]

end

/-- Settles O30: the parameters in their order, then whether the line is in service. -/
theorem setLineConfigures : Obligations.SetLineConfigures := by
  intro s p taken
  refine ⟨fun position before bad => ?_, fun inRange => ?_⟩
  · exact next_completeCommand taken (setLine_badParam (lineInRange_some before bad))
  have body := setLine_inRange (s := s) (lineInRange_none inRange)
  refine ⟨fun resting quiet => ?_, fun active => ?_⟩
  · have off := LineEngine.inService_resting resting quiet
    exact next_completeCommand taken (body.trans (if_neg (by simp [off])))
  · exact next_completeCommand taken (body.trans (if_pos (LineEngine.inService_of active)))

/-! ### The line a command names (R131, R132, R134) -/

section
variable {p : TakenCommand} {s : State} {x : Line}

theorem lineCode_inRange (line : loByte p.param0 = lineCode x) : fieldOf p.param0 0 8 < 2 := by
  rw [fieldOf_low, line]
  exact lineCode_lt x

/-! ### START_LINE (R131) -/

theorem startLine_badLine (high : 2 ≤ fieldOf p.param0 0 8) : startLine p s = refuse s .badParam 1 :=
  if_pos (Nat.not_lt.2 high)

theorem startLine_line (line : loByte p.param0 = lineCode x) :
    startLine p s =
      if (s.engineAt x).inService = true then refuse s .wrongState 0
      else if (s.engineAt x).configured = false then refuse s .notConfigured 0
      else if s.supervision.state = .expired then refuse s .expired 0
      else
        { state :=
            if (s.engineAt x).config.mode = .triggered then pickAndGive x (startedLine x s)
            else sweepAndGive x (startedLine x s),
          result := .ok, detail := 0 } := by
  have named : lineOfNat (fieldOf p.param0 0 8) = x := lineOfNat_eq line
  unfold startLine
  simp only [named, lineCode_inRange line, not_true_eq_false, if_false]

/-- A started line, with the guard time it waits for: none runs on a low pin, where the break measurement does (R60,
R84, R85, R131). -/
theorem startedLine_eq (x : Line) (s : State) :
    startedLine x s =
      (s.modEngine x fun g =>
        { g with
          haltCause := .noCause, control := .running, exchange := none, reception := none, exState := .guarding,
          span := if s.pins.rx.get x = .low then none
            else some ((s.engineAt x).config.guardTime * ((s.engineAt x).config.divisor + 1)),
          edge := none,
          lowSpan :=
            if s.pins.rx.get x = .low then some (22 * ((s.engineAt x).config.divisor + 1)) else none }).modSweep
        x fun c =>
          { c with
            count := 0, firstSweep := true, pendingStart := false, state := .between,
            counter := if (s.engineAt x).config.mode = .timed then c.period else c.counter,
            timerRunning := decide ((s.engineAt x).config.mode = .timed) } := by
  unfold startedLine enterGuard
  dsimp only
  rw [← modSweep_modEngine_comm, modEngine_modEngine]
  refine congrArg (State.modSweep · x _) (modEngine_congr x _ _ s ?_)
  cases pin : s.pins.rx.get x <;>
    simp [silenceSpan, LineEngine.receiving, LineConfig.spanOf, LineConfig.bitTime, breakLimit, pin]

end

/-- Settles O31: the checks in their order, then the mode. -/
theorem startLineStarts : Obligations.StartLineStarts := by
  intro s p taken
  refine ⟨fun high => next_completeCommand taken (startLine_badLine high), fun x line => ?_⟩
  have body := startLine_line (s := s) line
  refine ⟨fun active => ?_, fun resting quiet => ?_⟩
  · exact next_completeCommand taken (body.trans (if_pos (LineEngine.inService_of active)))
  have body := body.trans (if_neg (by simp [LineEngine.inService_resting resting quiet]))
  refine ⟨fun unconfigured => ?_, fun configured expired => ?_, fun configured alive => ?_⟩
  · exact next_completeCommand taken (body.trans (if_pos unconfigured))
  · have body := body.trans (if_neg (by simp [configured]))
    exact next_completeCommand taken (body.trans (if_pos expired))
  · have body := (body.trans (if_neg (by simp [configured]))).trans (if_neg alive)
    rw [startedLine_eq] at body
    exact next_completeCommand taken body

/-! ### STOP_LINE (R132) -/

section
variable {p : TakenCommand} {s : State} {x : Line}

theorem stopLine_badLine (high : 2 ≤ fieldOf p.param0 0 8) : stopLine p s = refuse s .badParam 1 :=
  if_pos (Nat.not_lt.2 high)

theorem stopLine_line (line : loByte p.param0 = lineCode x) :
    stopLine p s =
      if (s.engineAt x).control ≠ .running then refuse s .wrongState 0
      else if (s.engineAt x).exchange.isNone then { state := enterLine x .stopped s, result := .ok, detail := 0 }
      else
        { state := s.modEngine x fun g => { g with control := .stopping }, result := .okDeferred, detail := 0 } := by
  have named : lineOfNat (fieldOf p.param0 0 8) = x := lineOfNat_eq line
  unfold stopLine
  simp only [named, lineCode_inRange line, not_true_eq_false, if_false]

end

/-- Settles O32: the line's control state, then the exchange in flight. -/
theorem stopLineStops : Obligations.StopLineStops := by
  intro s p taken
  refine ⟨fun high => next_completeCommand taken (stopLine_badLine high), fun x line => ?_⟩
  have body := stopLine_line (s := s) line
  refine ⟨fun off => ?_, fun running free => ?_, fun running flight => ?_⟩
  · exact next_completeCommand taken (body.trans (if_pos off))
  · have body := body.trans (if_neg (not_not_intro running))
    exact next_completeCommand taken (body.trans (if_pos (by simp [free])))
  · have body := body.trans (if_neg (not_not_intro running))
    exact next_completeCommand taken (body.trans (if_neg (by simpa using flight)))

/-! ### ABORT_LINE and the abort's tail (R65, R134, R186) -/

section
variable {p : TakenCommand} {s : State} {x : Line}

theorem abortLine_badLine (high : 2 ≤ fieldOf p.param0 0 8) : abortLine p s = refuse s .badParam 1 :=
  if_pos (Nat.not_lt.2 high)

theorem abortLine_line (line : loByte p.param0 = lineCode x) :
    abortLine p s =
      if (s.engineAt x).control = .stopped ∨ (s.engineAt x).control = .halted then refuse s .wrongState 0
      else if (s.engineAt x).abortPending then { state := s, result := .ok, detail := 0 }
      else if (s.engineAt x).exchange.isSome ∧ (s.engineAt x).exState = .calling then
        { state := s.modEngine x fun g => { g with abortPending := true, control := .stopping }, result := .ok,
          detail := 0 }
      else { state := endInto x .aborted .stopped s, result := .ok, detail := 0 } := by
  have named : lineOfNat (fieldOf p.param0 0 8) = x := lineOfNat_eq line
  unfold abortLine
  simp only [named, lineCode_inRange line, not_true_eq_false, if_false]

theorem endInto_none (outcome : ExchangeResult) (target : EntryTarget) (free : (s.engineAt x).exchange = none) :
    endInto x outcome target s = enterLine x target s := by
  simp only [endInto, free]

theorem endInto_some {e : Exchange} (outcome : ExchangeResult) (target : EntryTarget)
    (flight : (s.engineAt x).exchange = some e) :
    endInto x outcome target s = enterLine x target (handOver x outcome e s) := by
  simp only [endInto, flight]

/-- Both rows that can end an abort's tail do: its own, and the last stop bit of a call (R53, R65, R134). -/
theorem exec_endTail {e : Exchange} (pending : (s.engineAt x).abortPending = true)
    (calling : (s.engineAt x).exState = .calling) (flight : (s.engineAt x).exchange = some e) {c : Instr}
    (row : c = .abortTailEnd x ∨ c = .callFrameSent x) : exec c s = .next (endTail x s) := by
  obtain rfl | rfl := row
  · exact congrArg Host.Outcome.next (if_pos ⟨pending, calling⟩)
  · refine congrArg Host.Outcome.next ?_
    simp only [callFrameSent, flight, calling, pending, if_true]

end

/-- Settles O33: the command by the line's state and its exchange, then the end of the abort's tail. -/
theorem abortLineAborts : Obligations.AbortLineAborts := by
  intro s
  refine ⟨fun p taken high => next_completeCommand taken (abortLine_badLine high), fun x => ?_⟩
  refine ⟨fun p taken line => ?_, fun e pending calling flight c row => ?_, fun untailed => ?_⟩
  · have body := abortLine_line (s := s) line
    refine ⟨fun off => next_completeCommand taken (body.trans (if_pos off)), fun active => ?_⟩
    have body := body.trans (if_neg (by obtain h | h := active <;> simp [h]))
    refine ⟨fun pending => next_completeCommand taken (body.trans (if_pos pending)), fun quiet free => ?_,
      fun e quiet flight calling => ?_, fun e quiet flight silent => ?_⟩ <;>
      have body := body.trans (if_neg (by simp [quiet]))
    · rw [if_neg (by simp [free]), endInto_none _ _ free] at body
      exact next_completeCommand taken body
    · exact next_completeCommand taken (body.trans (if_pos ⟨by simp [flight], calling⟩))
    · rw [if_neg (fun both => silent both.2), endInto_some _ _ flight] at body
      exact next_completeCommand taken body
  · rw [exec_endTail pending calling flight row]
    refine ⟨fun ready => ?_, fun unready => ?_⟩
    · exact congrArg Host.Outcome.next ((if_pos ready).trans (endInto_some _ _ flight))
    · exact congrArg Host.Outcome.next (if_neg (by simp [unready]))
  · refine congrArg Host.Outcome.next (if_neg fun both => ?_)
    obtain quiet | silent := untailed
    · exact Bool.false_ne_true (quiet.symm.trans both.1)
    · exact silent both.2

end Sys2Proof.Machine
end

section
/-! The Supervision Timer (R141 to R145): SET_SUPERVISION and the refresh, and the expiry with what each line makes of
it. -/

namespace Sys2Proof.Machine

/-! ### SET_SUPERVISION and SUPV_REFRESH (R141, R142) -/

section
variable {p : TakenCommand} {s : State}

theorem setSupervision_badParam (high : 256 ≤ p.param0.toNat) : setSupervision p s = refuse s .badParam 1 :=
  if_pos high

theorem setSupervision_pending (low : p.param0.toNat ≤ 255) (winding : windDownLines s ≠ 0) :
    setSupervision p s = refuse s .pending (windDownLines s) :=
  (if_neg (Nat.not_lt.2 low)).trans (if_pos winding)

theorem setSupervision_ok (low : p.param0.toNat ≤ 255) (quiet : windDownLines s = 0) :
    setSupervision p s =
      { state := { s with
          supervision :=
            if p.param0 = 0 then { state := .off, period := 0, countdown := 0, subMs := 0 }
            else { state := .armed, period := p.param0.toNat, countdown := p.param0.toNat, subMs := 0 } },
        result := .ok, detail := 0 } := by
  refine ((if_neg (Nat.not_lt.2 low)).trans (if_neg (not_not_intro quiet))).trans ?_
  by_cases off : p.param0 = 0
  · simp [off]
  · have period : p.param0.toNat ≠ 0 := fun zero => off (BitVec.eq_of_toNat_eq zero)
    simp only [if_neg off, if_neg period]

end

/-- Settles O56: the period's range, then the lines that wind down; a refresh by the timer's state. -/
theorem supervisionIsSetAndRefreshed : Obligations.SupervisionIsSetAndRefreshed := by
  refine ⟨fun s p taken => ?_, fun s lanes data opened => ⟨fun armed => ?_, fun unarmed => ?_⟩⟩
  · refine ⟨fun high => next_completeCommand taken (setSupervision_badParam high), fun low => ?_⟩
    have refuses {n : Nat} (lines : windDownLines s = n) (some : n ≠ 0) :
        exec .setSupervision s = .next (s.completed .pending n) := by
      subst lines
      exact next_completeCommand taken (setSupervision_pending low some)
    refine ⟨fun a b => refuses ?_ (by decide), fun a b => refuses ?_ (by decide), fun a b => refuses ?_ (by decide),
      fun a b => next_completeCommand taken (setSupervision_ok low ?_)⟩ <;> simp [windDownLines, a, b]
  · exact congrArg Host.Outcome.next ((if_pos opened).trans (if_pos armed))
  · exact congrArg Host.Outcome.next ((if_pos opened).trans (if_neg unarmed))

/-! ### What the expiry asks of a line (R143 step 4, R145) -/

/-- The line is in service with no abort pending. -/
def LineEngine.ServesAtExpiry (g : LineEngine) : Prop :=
  (g.control = .running ∨ g.control = .stopping) ∧ g.abortPending = false

/-- The line acts on the expiry: it is in service, or configured and STOPPED. -/
def LineEngine.ActsAtExpiry (g : LineEngine) : Prop := g.ServesAtExpiry ∨ g.control = .stopped ∧ g.configured = true

/-- A line in service has nothing in flight. -/
def LineEngine.IdleAtExpiry (g : LineEngine) : Prop := g.ServesAtExpiry → g.exchange = none

section
variable {g : LineEngine}

theorem expiryAction_nothing (rests : ¬ g.ActsAtExpiry) : expiryAction g = .nothing := by
  unfold LineEngine.ActsAtExpiry LineEngine.ServesAtExpiry at rests
  unfold expiryAction
  cases control : g.control <;> simp_all

theorem expiryAction_setWindDown (serves : g.ServesAtExpiry) (flight : g.exchange ≠ none) :
    expiryAction g = .setWindDown := by
  obtain ⟨control | control, quiet⟩ := serves <;>
    simp [expiryAction, control, quiet, Option.isSome_iff_ne_none.2 flight]

theorem expiryAction_idle (acts : g.ActsAtExpiry) (idle : g.IdleAtExpiry) :
    expiryAction g = if g.config.safeCallEnable = true then .sendSafeCall else .enterHalted := by
  obtain serves | ⟨stopped, configured⟩ := acts
  · have free := idle serves
    obtain ⟨control | control, quiet⟩ := serves <;> simp [expiryAction, control, quiet, free]
  · simp [expiryAction, stopped, configured]

theorem expiryAction_enterHalted_iff :
    expiryAction g = .enterHalted ↔ g.ActsAtExpiry ∧ g.IdleAtExpiry ∧ g.config.safeCallEnable = false := by
  by_cases acts : g.ActsAtExpiry
  · by_cases idle : g.IdleAtExpiry
    · rw [expiryAction_idle acts idle]
      cases g.config.safeCallEnable <;> simp [acts, idle]
    · obtain ⟨serves, flight⟩ := Classical.not_imp.1 idle
      simp [expiryAction_setWindDown serves flight, idle]
  · simp [expiryAction_nothing acts, acts]

end

/-! ### The expiry's effect on a line (R143 to R145) -/

/-- What the expiry makes of a Line Engine; `e` is the record of its safe call. -/
def LineEngine.acted (g : LineEngine) (e : Exchange) : ExpiryAction → LineEngine
  | .nothing => g
  | .setWindDown => { g with windDown := true }
  | .sendSafeCall =>
    if g.exState = .idle then ({ g with windDown := true } : LineEngine).call e
    else { g with windDown := true, exchange := some e }
  | .enterHalted => g.entered (.halted .supervision)

/-- What becomes of a station's record and its call pair where its line halts with a commit pending (R94, R136). -/
def commitAtExpiry (action : ExpiryAction) (r : Station) (p : CallPair) : Station × CallPair :=
  if action = .enterHalted ∧ r.commitPending = true then ({ r with commitPending := false }, p.swap) else (r, p)

theorem commitAtExpiry_line (action : ExpiryAction) (r : Station) (p : CallPair) :
    (commitAtExpiry action r p).1.line = r.line := by
  unfold commitAtExpiry
  split <;> rfl

section
variable (x : Line) (s : State)

theorem startSafeCall_winding :
    startSafeCall x (s.modEngine x fun g => { g with windDown := true }) =
      s.modEngine x fun g => g.acted (safeCallExchange s x) .sendSafeCall := by
  rw [startSafeCall, acceptExchange, modEngine_modEngine]
  rfl

theorem expiryEffect_enterHalted (halts : expiryAction (s.engineAt x) = .enterHalted) :
    expiryEffect x s = enterQuietly x (.halted .supervision) s := by
  simp only [expiryEffect, halts]

/-- A line that does not halt changes its Line Engine alone. -/
theorem expiryEffect_alive (alive : expiryAction (s.engineAt x) ≠ .enterHalted) :
    expiryEffect x s =
      s.modEngine x fun g => g.acted (safeCallExchange s x) (expiryAction (s.engineAt x)) := by
  unfold expiryEffect
  cases action : expiryAction (s.engineAt x) with
  | nothing => cases x <;> rfl
  | setWindDown => rfl
  | sendSafeCall => exact startSafeCall_winding x s
  | enterHalted => exact absurd action alive

theorem expiryEffect_engineAt (y : Line) :
    (expiryEffect x s).engineAt y =
      if y = x then (s.engineAt x).acted (safeCallExchange s x) (expiryAction (s.engineAt x)) else s.engineAt y := by
  by_cases halts : expiryAction (s.engineAt x) = .enterHalted
  · rw [expiryEffect_enterHalted x s halts, enterQuietly_engineAt, halts]
    rfl
  · rw [expiryEffect_alive x s halts, engineAt_modEngine]

theorem expiryEffect_sweepAt (y : Line) :
    (expiryEffect x s).sweepAt y =
      if y = x ∧ expiryAction (s.engineAt x) = .enterHalted then (s.sweepAt x).abandoned else s.sweepAt y := by
  by_cases halts : expiryAction (s.engineAt x) = .enterHalted
  · rw [expiryEffect_enterHalted x s halts, enterQuietly_sweepAt]
    simp [halts]
  · rw [expiryEffect_alive x s halts, modEngine_sweepAt]
    simp [halts]

theorem expiryEffect_station (i : Fin 32) :
    ((expiryEffect x s).stationAt i, (expiryEffect x s).callPairAt i) =
      if (s.stationAt i).line = x then
        commitAtExpiry (expiryAction (s.engineAt x)) (s.stationAt i) (s.callPairAt i)
      else (s.stationAt i, s.callPairAt i) := by
  by_cases halts : expiryAction (s.engineAt x) = .enterHalted
  · rw [expiryEffect_enterHalted x s halts, enterQuietly_stationAt, enterQuietly_callPairAt]
    by_cases line : (s.stationAt i).line = x <;> by_cases pending : (s.stationAt i).commitPending = true <;>
      simp [commitAtExpiry, mem_pendingCommits, halts, line, pending]
  · rw [expiryEffect_alive x s halts, modEngine_stationAt, modEngine_callPairAt]
    simp [commitAtExpiry, halts]

theorem expiryEffect_untouched :
    expiryEffect x s =
      { s with engine := (expiryEffect x s).engine, sweep := (expiryEffect x s).sweep,
               stations := (expiryEffect x s).stations,
               store := { s.store with calls := (expiryEffect x s).store.calls },
               arbiter := (expiryEffect x s).arbiter } := by
  by_cases halts : expiryAction (s.engineAt x) = .enterHalted
  · rw [expiryEffect_enterHalted x s halts]
    exact enterQuietly_frame x _ s
  · rw [expiryEffect_alive x s halts]
    rfl

/-- Where IRQ stands decided it stays so; a line that halts has its flag set (R136 step 4, R160). -/
theorem expiryEffect_arbiter {s : State} {a : Arbiter} (decided : s.arbiter = a.settled s.events.records.length) :
    (expiryEffect x s).arbiter =
      ({ a with
          pendingLineA := a.pendingLineA || decide (expiryAction (s.engineAt x) = .enterHalted) && decide (x = .a),
          pendingLineB := a.pendingLineB || decide (expiryAction (s.engineAt x) = .enterHalted) && decide (x = .b) } :
        Arbiter).settled s.events.records.length := by
  by_cases halts : expiryAction (s.engineAt x) = .enterHalted
  · rw [expiryEffect_enterHalted x s halts, enterQuietly_halted_arbiter, decided, halts]
    rfl
  · rw [expiryEffect_alive x s halts, modEngine_arbiter, decided]
    simp [halts]

end

/-! ### Both lines (R143) -/

/-- Both lines have acted on the expiry. -/
def bothActed (s : State) : State := expiryEffect .b (expiryEffect .a s)

section
variable (s : State)

theorem safeCallExchange_acted (x y : Line) : safeCallExchange (expiryEffect x s) y = safeCallExchange s y := by
  rw [expiryEffect_untouched]
  rfl

theorem bothActed_engineAt (x : Line) :
    (bothActed s).engineAt x = (s.engineAt x).acted (safeCallExchange s x) (expiryAction (s.engineAt x)) := by
  cases x with
  | a => rw [bothActed, expiryEffect_engineAt, if_neg (by decide), expiryEffect_engineAt, if_pos rfl]
  | b =>
    rw [bothActed, expiryEffect_engineAt, if_pos rfl, safeCallExchange_acted, expiryEffect_engineAt,
      if_neg (by decide)]

theorem bothActed_sweepAt (x : Line) :
    (bothActed s).sweepAt x =
      if expiryAction (s.engineAt x) = .enterHalted then (s.sweepAt x).abandoned else s.sweepAt x := by
  cases x <;> simp [bothActed, expiryEffect_sweepAt, expiryEffect_engineAt]

/-- A line takes the commits of its own stations alone, so the order of the two lines does not matter. -/
theorem bothActed_station (i : Fin 32) :
    ((bothActed s).stationAt i, (bothActed s).callPairAt i) =
      commitAtExpiry (expiryAction (s.engineAt (s.stationAt i).line)) (s.stationAt i) (s.callPairAt i) := by
  have first := expiryEffect_station .a s i
  have second := expiryEffect_station .b (expiryEffect .a s) i
  rw [expiryEffect_engineAt .a s .b, if_neg (show Line.b ≠ .a by decide)] at second
  cases line : (s.stationAt i).line with
  | a =>
    rw [if_pos line] at first
    have onA : ((expiryEffect .a s).stationAt i).line = .a :=
      (congrArg (Station.line ∘ Prod.fst) first).trans ((commitAtExpiry_line ..).trans line)
    rw [if_neg (by simp [onA]), first] at second
    exact second
  | b =>
    rw [if_neg (by simp [line])] at first
    obtain ⟨record, pair⟩ := Prod.mk.inj first
    rw [record, pair, if_pos line] at second
    exact second

/-- Both lines touch what one of them does. -/
theorem bothActed_untouched :
    bothActed s =
      { s with engine := (bothActed s).engine, sweep := (bothActed s).sweep, stations := (bothActed s).stations,
               store := { s.store with calls := (bothActed s).store.calls }, arbiter := (bothActed s).arbiter } := by
  unfold bothActed
  rw [expiryEffect_untouched .b, expiryEffect_untouched .a]

theorem bothActed_arbiter {s : State} {a : Arbiter} (decided : s.arbiter = a.settled s.events.records.length) :
    (bothActed s).arbiter =
      ({ a with
          pendingLineA := a.pendingLineA || decide (expiryAction (s.engineAt .a) = .enterHalted),
          pendingLineB := a.pendingLineB || decide (expiryAction (s.engineAt .b) = .enterHalted) } :
        Arbiter).settled s.events.records.length := by
  have events : (expiryEffect .a s).events = s.events := by rw [expiryEffect_untouched]
  have first := expiryEffect_arbiter .a decided
  rw [← events] at first
  rw [bothActed, expiryEffect_arbiter .b first, expiryEffect_engineAt, if_neg (by decide), events]
  simp

end

/-! ### The expiry whole (R143, R186) -/

/-- What the expiry does on a line; while READY is 0 it acts on none (R186). -/
def lineAction (s : State) (x : Line) : ExpiryAction :=
  if s.port.ready then expiryAction (s.engineAt x) else .nothing

/-- EXPIRED, with its flag and its record and no line acting yet (R143 steps 1 to 3). -/
def expiredAlone (s : State) : State :=
  post (supervisionExpiredRecord s.supervision.period)
    (setPending .supervision { s with supervision := { s.supervision with state := .expired, countdown := 0 } })

/-- `t` is the state behind the expiry of the ARMED timer of `s` at countdown 0; `more` are the records of the lines. -/
structure Expired (s t : State) (more : List EventRecord) : Prop where
  untouched : t =
    { s with supervision := { s.supervision with state := .expired }, engine := t.engine, sweep := t.sweep,
             stations := t.stations, store := { s.store with calls := t.store.calls }, events := t.events,
             arbiter := t.arbiter, freeCount := t.freeCount }
  events : t.events =
    more.foldl EventQueue.arrive (s.events.arrive (supervisionExpiredRecord s.supervision.period))
  named : ∀ r ∈ more, r.line ≠ none
  records : ∀ x, (more.filter fun r => decide (r.line = some x)) =
    if lineAction s x = .enterHalted then entryRecords x (.halted .supervision) s else []
  arbiter : t.arbiter =
    ({ s.arbiter with
        pendingSupervision := true,
        pendingLineA := s.arbiter.pendingLineA || decide (lineAction s .a = .enterHalted),
        pendingLineB := s.arbiter.pendingLineB || decide (lineAction s .b = .enterHalted) } :
      Arbiter).settled t.events.records.length
  engineAt : ∀ x, t.engineAt x = (s.engineAt x).acted (safeCallExchange s x) (lineAction s x)
  sweepAt : ∀ x, t.sweepAt x = if lineAction s x = .enterHalted then (s.sweepAt x).abandoned else s.sweepAt x
  station : ∀ i, (t.stationAt i, t.callPairAt i) =
    commitAtExpiry (lineAction s (s.stationAt i).line) (s.stationAt i) (s.callPairAt i)

section
variable {s : State}

theorem supervisionExpiry_due (armed : s.supervision.state = .armed) (zero : s.supervision.countdown = 0) :
    supervisionExpiry s = if s.port.ready then expiryOnLines (expiredAlone s) else expiredAlone s :=
  if_pos ⟨armed, zero⟩

theorem entryRecords_line {x : Line} {target : EntryTarget} {r : EventRecord} (mem : r ∈ entryRecords x target s) :
    r.line = some x := by
  rw [entryRecords_eq, List.mem_append, List.mem_map, List.mem_singleton] at mem
  obtain ⟨i, _, rfl⟩ | rfl := mem <;> rfl

theorem expiryRecords_eq (x : Line) (s : State) :
    expiryRecords x s =
      if expiryAction (s.engineAt x) = .enterHalted then entryRecords x (.halted .supervision) s else [] := by
  unfold expiryRecords
  cases expiryAction (s.engineAt x) <;> rfl

theorem expiryRecords_line {x : Line} {r : EventRecord} (mem : r ∈ expiryRecords x s) : r.line = some x := by
  rw [expiryRecords_eq] at mem
  split at mem
  · exact entryRecords_line mem
  · exact absurd mem (by simp)

/-- The records of both lines: each line's own, in their order, and no other (R143). -/
theorem interleave_lines (s u : State) :
    let more := (interleave (expiryRecords .a s) (expiryRecords .b s) u).1
    (∀ r ∈ more, r.line ≠ none) ∧ ∀ x, (more.filter fun r => decide (r.line = some x)) = expiryRecords x s := by
  obtain ⟨_, both, first, second⟩ := interleave_spec (expiryRecords .a s) (expiryRecords .b s) u
  have own (y : Line) : ((expiryRecords y s).filter fun r => decide (r.line = some y)) = expiryRecords y s :=
    List.filter_eq_self.2 fun r mem => by simp [expiryRecords_line mem]
  refine ⟨fun r mem => ?_, fun x => ?_⟩
  · obtain mem | mem := List.mem_append.1 (both.mem_iff.1 mem) <;> simp [expiryRecords_line mem]
  · cases x with
    | a => exact (first _ fun r mem => by simp [expiryRecords_line mem]).trans (own .a)
    | b => exact (second _ fun r mem => by simp [expiryRecords_line mem]).trans (own .b)

theorem expiryOnLines_eq {a : Arbiter} (decided : s.arbiter = a.settled s.events.records.length) :
    ∃ (more : List EventRecord) (n : Nat),
      (expiryOnLines s =
        { bothActed s with
          events := more.foldl EventQueue.arrive s.events,
          arbiter :=
            ({ a with
                pendingLineA := a.pendingLineA || decide (expiryAction (s.engineAt .a) = .enterHalted),
                pendingLineB := a.pendingLineB || decide (expiryAction (s.engineAt .b) = .enterHalted) } :
              Arbiter).settled (more.foldl EventQueue.arrive s.events).records.length,
          freeCount := n })
        ∧ (∀ r ∈ more, r.line ≠ none)
        ∧ ∀ x, (more.filter fun r => decide (r.line = some x)) = expiryRecords x s := by
  have events : (bothActed s).events = s.events := by rw [bothActed_untouched]
  have acted := bothActed_arbiter decided
  rw [← events] at acted
  have used := (interleave_spec (expiryRecords .a s) (expiryRecords .b s) (bothActed s)).1
  have lines := interleave_lines s (bothActed s)
  have posted : expiryOnLines s =
    postAll (interleave (expiryRecords .a s) (expiryRecords .b s) (bothActed s)).1
      (interleave (expiryRecords .a s) (expiryRecords .b s) (bothActed s)).2 := rfl
  generalize interleave (expiryRecords .a s) (expiryRecords .b s) (bothActed s) = r at used lines posted
  refine ⟨r.1, r.2.freeCount, ?_, lines⟩
  rw [posted, used, postAll_settled (s := { bothActed s with freeCount := r.2.freeCount }) r.1 acted, ← events]

theorem expiredAlone_eq (zero : s.supervision.countdown = 0) :
    expiredAlone s =
      { s with
        supervision := { s.supervision with state := .expired },
        events := s.events.arrive (supervisionExpiredRecord s.supervision.period),
        arbiter := ({ s.arbiter with pendingSupervision := true } : Arbiter).settled
          (s.events.arrive (supervisionExpiredRecord s.supervision.period)).records.length } := by
  unfold expiredAlone
  rw [← zero]
  rfl

theorem expired_unready (unready : s.port.ready = false) (zero : s.supervision.countdown = 0) :
    Expired s (expiredAlone s) [] := by
  have rests (x : Line) : lineAction s x = .nothing := if_neg (by simp [unready])
  rw [expiredAlone_eq zero]
  refine ⟨rfl, List.foldl_nil.symm, fun _ mem => absurd mem List.not_mem_nil, fun x => ?_, ?_, fun x => ?_,
    fun x => ?_, fun i => ?_⟩
  · rw [rests]
    rfl
  · simp [rests]
  · rw [rests]
    rfl
  · rw [rests]
    rfl
  · rw [rests]
    rfl

theorem expired_ready (ready : s.port.ready = true) (zero : s.supervision.countdown = 0) :
    ∃ more, Expired s (expiryOnLines (expiredAlone s)) more := by
  have acts (x : Line) : lineAction s x = expiryAction (s.engineAt x) := if_pos ready
  obtain ⟨more, n, outcome, named, records⟩ := expiryOnLines_eq (s := expiredAlone s)
    (a := { s.arbiter with pendingSupervision := true }) rfl
  rw [outcome]
  refine ⟨more, ?_, rfl, named, fun x => (records x).trans ?_, ?_, fun x => (bothActed_engineAt _ x).trans ?_,
    fun x => (bothActed_sweepAt _ x).trans ?_, fun i => (bothActed_station _ i).trans ?_⟩
  · rw [bothActed_untouched, expiredAlone_eq zero]
  · rw [expiryRecords_eq, acts]
    rfl
  · rw [acts, acts]
    rfl
  · rw [acts]
    rfl
  · rw [acts]
    rfl
  · rw [acts]
    rfl

/-- The expiry of an ARMED timer at countdown 0, with every line acting or none (R143, R186). -/
theorem supervisionExpiry_expired (armed : s.supervision.state = .armed) (zero : s.supervision.countdown = 0) :
    ∃ more, Expired s (supervisionExpiry s) more := by
  rw [supervisionExpiry_due armed zero]
  cases ready : s.port.ready with
  | true => exact expired_ready ready zero
  | false => exact ⟨[], expired_unready ready zero⟩

theorem lineAction_enterHalted_iff {x : Line} :
    lineAction s x = .enterHalted ↔
      s.port.ready = true ∧ (s.engineAt x).ActsAtExpiry ∧ (s.engineAt x).IdleAtExpiry
        ∧ (s.engineAt x).config.safeCallEnable = false := by
  rw [← expiryAction_enterHalted_iff]
  unfold lineAction
  cases s.port.ready <;> simp

theorem lineAction_nothing {x : Line} (rests : ¬ (s.engineAt x).ActsAtExpiry ∨ s.port.ready = false) :
    lineAction s x = .nothing := by
  obtain rests | unready := rests
  · simp [lineAction, expiryAction_nothing rests]
  · simp [lineAction, unready]

theorem LineEngine.acted_idle {g : LineEngine} (e : Exchange) (idle : g.exState = .idle) :
    g.acted e .sendSafeCall = ({ g with windDown := true } : LineEngine).call e := if_pos idle

theorem LineEngine.acted_guarding {g : LineEngine} (e : Exchange) (guarding : g.exState = .guarding) :
    g.acted e .sendSafeCall = { g with windDown := true, exchange := some e } := if_neg (by simp [guarding])

end

/-- Settles O57: the timer at rest, then the expiry whole and each line by what it does on it. -/
theorem expiryWindsTheLinesDown : Obligations.ExpiryWindsTheLinesDown := by
  intro s
  refine ⟨fun rests => ?_, fun armed zero => ?_⟩
  · exact congrArg Host.Outcome.next (if_neg fun due => rests.elim (· due.1) (· due.2))
  obtain ⟨more, outcome⟩ := supervisionExpiry_expired armed zero
  refine ⟨supervisionExpiry s, more, rfl, outcome.untouched, outcome.events, outcome.named,
    ⟨fun x => decide (lineAction s x = .enterHalted), fun x => decide_eq_true_iff.trans lineAction_enterHalted_iff,
      outcome.arbiter⟩, fun x => ?_⟩
  have engine := outcome.engineAt x
  have sweep := outcome.sweepAt x
  have records := outcome.records x
  have station := outcome.station
  refine ⟨fun rests => ?_, fun ready serves flight => ?_, fun ready acts idle enabled => ?_, fun halts => ?_,
    fun alive => ?_, fun i => ⟨fun halts commits => ?_, fun line kept => ?_⟩⟩
  · rw [lineAction_nothing rests] at engine
    exact engine
  · rw [lineAction, if_pos ready, expiryAction_setWindDown serves flight] at engine
    exact engine
  · rw [lineAction, if_pos ready, expiryAction_idle acts idle, if_pos enabled] at engine
    exact ⟨fun resting => engine.trans (LineEngine.acted_idle _ resting),
      fun guarding => engine.trans (LineEngine.acted_guarding _ guarding)⟩
  · have action := lineAction_enterHalted_iff.2 halts
    rw [action] at engine
    rw [if_pos action] at sweep records
    rw [entryRecords_eq] at records
    exact ⟨engine, sweep, records⟩
  · have action := mt lineAction_enterHalted_iff.1 alive
    rw [if_neg action] at sweep records
    exact ⟨sweep, fun r mem line => List.filter_eq_nil_iff.1 records r mem (decide_eq_true line)⟩
  · obtain ⟨pending, line⟩ := Bool.and_eq_true_iff.1 commits
    have line := of_decide_eq_true line
    have taken := station i
    rw [line, commitAtExpiry, if_pos ⟨lineAction_enterHalted_iff.2 halts, pending⟩] at taken
    obtain ⟨record, pair⟩ := Prod.mk.inj taken
    rw [pair]
    exact ⟨record, CallPair.live_swap _, CallPair.staged_swap _⟩
  · have left := station i
    rw [line, commitAtExpiry, if_neg] at left
    · exact Prod.mk.inj left
    · rintro ⟨action, pending⟩
      obtain alive | absent := kept
      · exact alive (lineAction_enterHalted_iff.1 action)
      · simp [pending, line] at absent

end Sys2Proof.Machine
end

section
/-! The Event Queue (R147, R149 to R155): what a record's arrival and a removal make of it, what every command does to
it and to the Interrupt Arbiter, and its law. -/

namespace Sys2Proof.Machine

/-! ### Records arrive and leave (R149, R150, R152, R153) -/

section
variable {q : EventQueue}

theorem EventQueue.arrive_room (r : EventRecord) (room : q.records.length < 32) :
    q.arrive r = { q with records := q.records ++ [r] } := if_pos room

theorem EventQueue.arrive_full (r : EventRecord) (full : 32 ≤ q.records.length) :
    q.arrive r = { q with lost := if q.lost < 255 then q.lost + 1 else q.lost } := if_neg (Nat.not_lt.2 full)

theorem EventQueue.advance_empty (empty : q.records = []) : q.advance = q := by
  unfold EventQueue.advance
  rw [empty]

theorem EventQueue.advance_cons {head : EventRecord} {rest : List EventRecord} (held : q.records = head :: rest) :
    q.advance =
      if rest.length = 31 ∧ 0 < q.lost then { records := rest ++ [lostRecord q.lost], lost := 0 }
      else { q with records := rest } := by
  unfold EventQueue.advance
  simp [held, eventCapacity]

theorem EventQueue.lawful.arrive (h : q.lawful) (r : EventRecord) : (q.arrive r).lawful := by
  obtain ⟨bound, full, count⟩ := h
  by_cases room : q.records.length < 32
  · have lossless : q.lost = 0 := by
      by_contra losing
      exact absurd (full losing) (Nat.ne_of_lt room)
    rw [arrive_room r room]
    refine ⟨?_, fun losing => absurd lossless losing, count⟩
    rw [List.length_append]
    exact room
  · rw [arrive_full r (Nat.not_lt.1 room)]
    refine ⟨bound, fun _ => Nat.le_antisymm bound (Nat.not_lt.1 room), ?_⟩
    dsimp only
    split <;> omega

theorem EventQueue.lawful.advance (h : q.lawful) : q.advance.lawful := by
  cases held : q.records with
  | nil =>
    rw [advance_empty held]
    exact h
  | cons head rest =>
    obtain ⟨bound, full, count⟩ := h
    rw [held, List.length_cons, eventCapacity] at bound full
    rw [advance_cons held]
    split
    · next refilled => exact ⟨by simp [refilled.1, eventCapacity], fun losing => absurd rfl losing, Nat.zero_le _⟩
    · next keeping =>
      have lossless : q.lost = 0 := by omega
      exact ⟨Nat.le_of_succ_le bound, fun losing => absurd lossless losing, count⟩

theorem EventQueue.lawful_reset : EventQueue.reset.lawful := lawsHoldAtReset.1

end

/-! ### What every command does to the Event Queue and the Interrupt Arbiter -/

/-- From `s` to `t` records are posted and pending flags set, or the Event Queue or the Interrupt Arbiter is accessed
once through its registers, or both are reset. -/
inductive Accounted : State → State → Prop
  | reporting {s t : State} (h : Reporting s t) : Accounted s t
  | advanced (s : State) : Accounted s (evtAdvance s)
  | claimed (lanes : Lanes) (s : State) : Accounted s (intClaim lanes s)
  | ended (s : State) : Accounted s (intEos s)
  | served (lanes : Lanes) (data : Word) (s : State) : Accounted s (intSvcWrite lanes data s)
  | statusRead (lanes : Lanes) (s : State) : Accounted s (intStatusRead lanes s)
  | flagsCleared (lanes : Lanes) (data : Word) (s : State) : Accounted s (intPendWrite lanes data s)
  | levelled (register : LevelsRegister) (lanes : Lanes) (data : Word) (s : State) :
      Accounted s (intLevelsWrite register lanes data s)
  | reset {s t : State} (he : t.events = EventQueue.reset) (ha : t.arbiter = Arbiter.reset) : Accounted s t

theorem Accounted.elsewhere {s t : State} (hq : t.pending = s.pending) (he : t.events = s.events)
    (ha : t.arbiter = s.arbiter) : Accounted s t := .reporting (.elsewhere hq he ha)

theorem Accounted.rfl {s : State} : Accounted s s := .reporting .rfl

/-- A guarded update, as every strobe through the window is one. -/
theorem ite_accounted {c : Prop} [Decidable c] {s t u : State} (ht : Accounted s t) (hu : Accounted s u) :
    Accounted s (if c then t else u) := by
  split
  · exact ht
  · exact hu

theorem completeCommand_accounted (code : Byte) {body : TakenCommand → State → Completion} {s : State}
    (h : ∀ p, Reporting s (body p s).state) : Accounted s (completeCommand code body s) :=
  .reporting (completeCommand_reporting code body s h)

theorem windowWrite_accounted (address : WindowAddress) (lanes : Lanes) (data : Word) (s : State) :
    Accounted s (windowWrite address lanes data s) := by
  unfold windowWrite
  cases writableAt address with
  | none => exact .rfl
  | some register =>
    cases register with
    | cmd => exact .reporting (cmdWrite_reporting lanes data s)
    | param0 | param1 | param2 | param3 => exact .elsewhere (Eq.refl _) (Eq.refl _) (Eq.refl _)
    | viewOffset => exact .reporting (viewOffsetWrite_reporting lanes data s)
    | data => exact .reporting (dataWrite_reporting lanes data s)
    | evtAdvance => exact .advanced s
    | intEos => exact .ended s
    | intSvc => exact .served lanes data s
    | intPend => exact .flagsCleared lanes data s
    | intLevels0 | intLevels1 => exact .levelled _ lanes data s
    | supvRefresh => exact .reporting (supvRefresh_reporting s)

/-- Every command is accounted for: all but the registers' own accesses and the resets only report. -/
theorem exec_accounted (c : Instr) (s : State) : ∃ t, exec c s = .next t ∧ Accounted s t := by
  have driven (lanes : Lanes) : Accounted s (driveData lanes 0 s) := .elsewhere (Eq.refl _) (Eq.refl _) (Eq.refl _)
  cases c with
  | defineStation => exact ⟨_, rfl, completeCommand_accounted _ (defineStation_reporting · s)⟩
  | dropStation => exact ⟨_, rfl, completeCommand_accounted _ (dropStation_reporting · s)⟩
  | enableStation => exact ⟨_, rfl, completeCommand_accounted _ (enableStation_reporting · s)⟩
  | disableStation => exact ⟨_, rfl, completeCommand_accounted _ (disableStation_reporting · s)⟩
  | setStationLimits => exact ⟨_, rfl, completeCommand_accounted _ (setStationLimits_reporting · s)⟩
  | loadSweep => exact ⟨_, rfl, completeCommand_accounted _ (loadSweep_reporting · s)⟩
  | setLine => exact ⟨_, rfl, completeCommand_accounted _ (setLine_reporting · s)⟩
  | setPeriod => exact ⟨_, rfl, completeCommand_accounted _ (setPeriod_reporting · s)⟩
  | startLine => exact ⟨_, rfl, completeCommand_accounted _ (startLine_reporting · s)⟩
  | stopLine => exact ⟨_, rfl, completeCommand_accounted _ (stopLine_reporting · s)⟩
  | abortLine => exact ⟨_, rfl, completeCommand_accounted _ (abortLine_reporting · s)⟩
  | sweepNow => exact ⟨_, rfl, completeCommand_accounted _ (sweepNow_reporting · s)⟩
  | postRequest => exact ⟨_, rfl, completeCommand_accounted _ (postRequest_reporting · s)⟩
  | cancelRequest => exact ⟨_, rfl, completeCommand_accounted _ (cancelRequest_reporting · s)⟩
  | flushRequests => exact ⟨_, rfl, completeCommand_accounted _ (flushRequests_reporting · s)⟩
  | collectRequest => exact ⟨_, rfl, completeCommand_accounted _ (collectRequest_reporting · s)⟩
  | commitCall => exact ⟨_, rfl, completeCommand_accounted _ (commitCall_reporting · s)⟩
  | openView => exact ⟨_, rfl, completeCommand_accounted _ (openView_reporting · s)⟩
  | closeView => exact ⟨_, rfl, completeCommand_accounted _ (closeView_reporting · s)⟩
  | setSupervision => exact ⟨_, rfl, completeCommand_accounted _ (setSupervision_reporting · s)⟩
  | softReset => exact ⟨_, rfl, ite_accounted (.reset rfl rfl) .rfl⟩
  | pinResetAssert => exact ⟨_, rfl, ite_accounted (.reset rfl rfl) .rfl⟩
  | pinResetRelease => exact ⟨_, rfl, ite_accounted (.reset rfl rfl) .rfl⟩
  | evtAdvance _ _ => exact ⟨_, rfl, ite_accounted (.advanced s) .rfl⟩
  | intClaim lanes => exact ⟨_, rfl, ite_accounted (.claimed lanes s) (driven lanes)⟩
  | intEos _ _ => exact ⟨_, rfl, ite_accounted (.ended s) .rfl⟩
  | intSvcWrite lanes data => exact ⟨_, rfl, ite_accounted (.served lanes data s) .rfl⟩
  | intStatusRead lanes => exact ⟨_, rfl, ite_accounted (.statusRead lanes s) (driven lanes)⟩
  | intPendWrite lanes data => exact ⟨_, rfl, ite_accounted (.flagsCleared lanes data s) .rfl⟩
  | intLevelsWrite register lanes data => exact ⟨_, rfl, ite_accounted (.levelled register lanes data s) .rfl⟩
  | registerWrite address lanes data => exact ⟨_, rfl, ite_accounted (windowWrite_accounted address lanes data s) .rfl⟩
  | commandTake lanes data => exact ⟨_, rfl, ite_accounted (.reporting (cmdWrite_reporting lanes data s)) .rfl⟩
  | commandCollision lanes data => exact ⟨_, rfl, ite_accounted (.reporting (cmdWrite_reporting lanes data s)) .rfl⟩
  | supvRefresh _ _ => exact ⟨_, rfl, ite_accounted (.reporting (supvRefresh_reporting s)) .rfl⟩
  | dataRead lanes => exact ⟨_, rfl, ite_accounted (.reporting (dataRead_reporting lanes s)) (driven lanes)⟩
  | dataWrite lanes data => exact ⟨_, rfl, ite_accounted (.reporting (dataWrite_reporting lanes data s)) .rfl⟩
  | viewOffsetWrite lanes data =>
    exact ⟨_, rfl, ite_accounted (.reporting (viewOffsetWrite_reporting lanes data s)) .rfl⟩
  | unknownCommand => exact ⟨_, rfl, .reporting (unknownCommand_reporting s)⟩
  | readyAfterReset => exact ⟨_, rfl, .reporting (readyAfterReset_reporting s)⟩
  | syncFallingEdge x => exact ⟨_, rfl, .reporting (syncFallingEdge_reporting x s)⟩
  | characterReceived x data mark stop =>
    exact ⟨_, rfl, .reporting (characterReceived_reporting x data mark stop s)⟩
  | callFrameSent x => exact ⟨_, rfl, .reporting (callFrameSent_reporting x s)⟩
  | abortTailEnd x => exact ⟨_, rfl, .reporting (abortTailEnd_reporting x s)⟩
  | answerTimeout x => exact ⟨_, rfl, .reporting (answerTimeout_reporting x s)⟩
  | gapLimitExpiry x => exact ⟨_, rfl, .reporting (gapLimitExpiry_reporting x s)⟩
  | drainSilenceEnd x => exact ⟨_, rfl, .reporting (drainSilenceEnd_reporting x s)⟩
  | guardTimeExpiry x => exact ⟨_, rfl, .reporting (guardTimeExpiry_reporting x s)⟩
  | breakDetected x => exact ⟨_, rfl, .reporting (breakDetected_reporting x s)⟩
  | cycleTimerExpiry x => exact ⟨_, rfl, .reporting (cycleTimerExpiry_reporting x s)⟩
  | supervisionExpiry => exact ⟨_, rfl, .reporting (supervisionExpiry_reporting s)⟩
  | startBitArrival x => exact ⟨_, rfl, .reporting (startBitArrival_reporting x s)⟩
  | pinReturnsHigh x => exact ⟨_, rfl, .reporting (pinReturnsHigh_reporting x s)⟩

/-- A step is accounted for, but for the command queue; a microsecond leaves the Event Queue and the Arbiter alone. -/
theorem step_accounted {s t : State} (h : step s = .next t) : ∃ queue, Accounted { s with pending := queue } t := by
  obtain ⟨c, rest, _, ran⟩ | ⟨_, rfl⟩ := step_cases h
  · obtain ⟨u, next, accounted⟩ := exec_accounted c { s with pending := rest }
    cases ran.symm.trans next
    exact ⟨rest, accounted⟩
  · exact ⟨(tick s).pending, .elsewhere rfl (tick_events s).1 (tick_events s).2⟩

/-! ### The law of the Event Queue (R150) -/

theorem intClaim_events (lanes : Lanes) (s : State) : (intClaim lanes s).events = s.events := by
  unfold intClaim
  dsimp only
  split <;> rfl

theorem intEos_events (s : State) : (intEos s).events = s.events := by
  unfold intEos
  split <;> rfl

theorem intSvcWrite_events (lanes : Lanes) (data : Word) (s : State) :
    (intSvcWrite lanes data s).events = s.events := by
  unfold intSvcWrite
  split
  · split <;> rfl
  · rfl

theorem intStatusRead_events (lanes : Lanes) (s : State) : (intStatusRead lanes s).events = s.events := by
  unfold intStatusRead
  dsimp only
  split <;> rfl

theorem intPendWrite_events (lanes : Lanes) (data : Word) (s : State) :
    (intPendWrite lanes data s).events = s.events := by
  unfold intPendWrite
  split <;> rfl

/-- A change that is accounted for keeps the law: records arrive one by one, or the head is removed, or the queue is
left or emptied. -/
theorem Accounted.events_lawful {s t : State} (h : Accounted s t) (hs : s.events.lawful) : t.events.lawful := by
  cases h with
  | reporting h =>
    exact h.keeps (P := fun q _ => q.lawful) (fun r _ lawful => lawful.arrive r) (fun _ _ lawful => lawful) hs
  | advanced => exact hs.advance
  | claimed lanes =>
    rw [intClaim_events]
    exact hs
  | ended =>
    rw [intEos_events]
    exact hs
  | served lanes data =>
    rw [intSvcWrite_events]
    exact hs
  | statusRead lanes =>
    rw [intStatusRead_events]
    exact hs
  | flagsCleared lanes data =>
    rw [intPendWrite_events]
    exact hs
  | levelled => exact hs
  | reset he _ =>
    rw [he]
    exact EventQueue.lawful_reset

/-- Settles O6: every step is accounted for, and what is accounted for keeps the law. -/
theorem eventQueueLawKept : Obligations.EventQueueLawKept := by
  intro s t h hs
  obtain ⟨_, accounted⟩ := step_accounted h
  exact accounted.events_lawful hs

/-! ### Records posted and removed (R149, R150, R152, R153, R155) -/

/-- Settles O14: a record finds room or a full queue; a removal finds an empty queue, or one with losses or without. -/
theorem eventQueueStoresAndRemoves : Obligations.EventQueueStoresAndRemoves := by
  refine ⟨fun r s => ⟨rfl, fun room => ?_, fun full => ?_⟩, fun s lanes data opened => ?_⟩
  · have stored : (post r s).events = _ := EventQueue.arrive_room r room
    rw [stored]
    exact ⟨rfl, rfl⟩
  · have counted : (post r s).events = _ := EventQueue.arrive_full r full
    rw [counted]
    exact ⟨rfl, rfl⟩
  · refine ⟨evtAdvance s, congrArg Host.Outcome.next (if_pos opened), rfl, EventQueue.advance_empty,
      fun head rest held => ?_⟩
    have removed : (evtAdvance s).events = _ := EventQueue.advance_cons held
    rw [removed]
    refine ⟨fun full losses => ?_, fun kept => ?_⟩
    · rw [if_pos ⟨full, losses⟩]
      exact ⟨rfl, rfl⟩
    · rw [if_neg (by omega)]
      exact ⟨rfl, rfl⟩

end Sys2Proof.Machine
end

section
/-! The register window read without an effect (R151, R154, R164, R166, R168, R170, R186 to R188). -/

namespace Sys2Proof.Machine

/-! ### Flags and fields of a number shown in one word -/

section
variable {n : Nat}

theorem toNat_field_wordOf {start width v : Nat} (within : start + width ≤ 16)
    (shown : n / 2 ^ start % 2 ^ width = v) : ((wordOf n).extractLsb' start width).toNat = v := by
  have parted : 2 ^ 16 = 2 ^ start * 2 ^ (16 - start) := by rw [← pow_add, Nat.add_sub_of_le (by omega)]
  rw [wordOf, BitVec.extractLsb'_toNat, BitVec.toNat_ofNat, Nat.shiftRight_eq_div_pow, parted,
    Nat.mod_mul_right_div_self, Nat.mod_mod_of_dvd _ (pow_dvd_pow 2 (by omega)), shown]

theorem field_wordOf {start width : Nat} {v : BitVec width} (within : start + width ≤ 16)
    (shown : n / 2 ^ start % 2 ^ width = v.toNat) : (wordOf n).extractLsb' start width = v :=
  BitVec.eq_of_toNat_eq (toNat_field_wordOf within shown)

theorem getLsbD_wordOf {i : Nat} (within : i < 16) : (wordOf n).getLsbD i = decide (n / 2 ^ i % 2 = 1) := by
  rw [wordOf, BitVec.getLsbD_ofNat, decide_eq_true within, Bool.true_and, Nat.testBit_eq_decide_div_mod_eq]

theorem flag_wordOf {i : Nat} {flag : Bool} (within : i < 16) (shown : n / 2 ^ i % 2 = if flag then 1 else 0) :
    (wordOf n).getLsbD i = flag := by
  rw [getLsbD_wordOf within, shown]
  cases flag <;> rfl

/-- A word has none of the bits of a mask whose bits `positions` covers. -/
theorem unused_wordOf {mask : Word} (positions : List Nat)
    (covers : ∀ i < 16, mask.getLsbD i = true → i ∈ positions) (clear : ∀ i ∈ positions, n / 2 ^ i % 2 = 0) :
    wordOf n &&& mask = 0 := by
  refine BitVec.eq_of_getLsbD_eq fun i within => ?_
  rw [BitVec.getLsbD_and, BitVec.ofNat_eq_ofNat, BitVec.getLsbD_zero]
  cases masked : mask.getLsbD i with
  | false => exact Bool.and_false _
  | true => simp [getLsbD_wordOf within, clear i (covers i within masked)]

end

theorem flag_le (flag : Bool) : (if flag then 1 else 0) ≤ 1 := by cases flag <;> decide

/-! ### STATUS, INT_PEND and the level registers (R159, R166, R170, R188) -/

theorem commandStateCode_lt (c : CommandState) : commandStateCode c < 4 := by cases c <;> decide

theorem lineStateCode_lt (l : LineState) : lineStateCode l < 4 := by cases l <;> decide

theorem supervisionCode_lt (v : SupervisionState) : supervisionCode v < 4 := by cases v <;> decide

theorem statusWord_fields (s : State) :
    (statusWord s).getLsbD 0 = s.port.ready
      ∧ ((statusWord s).extractLsb' 1 2).toNat = commandStateCode s.command.state
      ∧ (statusWord s).getLsbD 3 = s.port.collision
      ∧ ((statusWord s).extractLsb' 4 2).toNat = lineStateCode (s.engineAt .a).control
      ∧ ((statusWord s).extractLsb' 6 2).toNat = lineStateCode (s.engineAt .b).control
      ∧ ((statusWord s).extractLsb' 8 2).toNat = supervisionCode s.supervision.state
      ∧ statusWord s &&& 0xFC00 = 0 := by
  have ready := flag_le s.port.ready
  have command := commandStateCode_lt s.command.state
  have collision := flag_le s.port.collision
  have lineA := lineStateCode_lt (s.engineAt .a).control
  have lineB := lineStateCode_lt (s.engineAt .b).control
  have supervision := supervisionCode_lt s.supervision.state
  refine ⟨flag_wordOf (by decide) (by omega), toNat_field_wordOf (by decide) (by omega),
    flag_wordOf (by decide) (by omega), toNat_field_wordOf (by decide) (by omega),
    toNat_field_wordOf (by decide) (by omega), toNat_field_wordOf (by decide) (by omega),
    unused_wordOf [10, 11, 12, 13, 14, 15] (by decide) ?_⟩
  simp only [List.forall_mem_cons, List.not_mem_nil, false_imp_iff, implies_true, and_true]
  omega

theorem intPendWord_flags (s : State) :
    (intPendWord s).getLsbD 0 = s.arbiter.pendingSupervision ∧ (intPendWord s).getLsbD 1 = s.arbiter.pendingLineA
      ∧ (intPendWord s).getLsbD 2 = s.arbiter.pendingLineB
      ∧ ((intPendWord s).getLsbD 3 = true ↔ s.arbiter.threshold ≤ s.events.records.length)
      ∧ (intPendWord s).getLsbD 4 = s.arbiter.pendingCommand ∧ intPendWord s &&& 0xFFE0 = 0 := by
  have supervision := flag_le s.arbiter.pendingSupervision
  have lineA := flag_le s.arbiter.pendingLineA
  have lineB := flag_le s.arbiter.pendingLineB
  have events := flag_le (s.arbiter.conditionOf s.events.records.length .events)
  have command := flag_le s.arbiter.pendingCommand
  have shown : (intPendWord s).getLsbD 3 = s.arbiter.conditionOf s.events.records.length .events :=
    flag_wordOf (by decide) (by omega)
  refine ⟨flag_wordOf (by decide) (by omega), flag_wordOf (by decide) (by omega), flag_wordOf (by decide) (by omega),
    ?_, flag_wordOf (by decide) (by omega), unused_wordOf [5, 6, 7, 8, 9, 10, 11, 12, 13, 14, 15] (by decide) ?_⟩
  · rw [shown]
    exact decide_eq_true_iff
  · simp only [List.forall_mem_cons, List.not_mem_nil, false_imp_iff, implies_true, and_true]
    omega

theorem levels0Word_fields (a : Arbiter) :
    (levels0Word a).extractLsb' 0 3 = a.levelSupervision ∧ (levels0Word a).extractLsb' 4 3 = a.levelLineA
      ∧ (levels0Word a).extractLsb' 8 3 = a.levelLineB ∧ (levels0Word a).extractLsb' 12 3 = a.levelEvents
      ∧ levels0Word a &&& 0x8888 = 0 := by
  have supervision := a.levelSupervision.isLt
  have lineA := a.levelLineA.isLt
  have lineB := a.levelLineB.isLt
  have events := a.levelEvents.isLt
  refine ⟨field_wordOf (by decide) (by omega), field_wordOf (by decide) (by omega),
    field_wordOf (by decide) (by omega), field_wordOf (by decide) (by omega),
    unused_wordOf [3, 7, 11, 15] (by decide) ?_⟩
  simp only [List.forall_mem_cons, List.not_mem_nil, false_imp_iff, implies_true, and_true]
  omega

/-- The threshold stands beside COMMAND's level and does not reach it. -/
theorem levels1Word_command (a : Arbiter) : (levels1Word a).extractLsb' 0 3 = a.levelCommand := by
  have command := a.levelCommand.isLt
  exact field_wordOf (by decide) (by omega)

theorem levels1Word_threshold {a : Arbiter} (small : a.threshold < 64) :
    ((levels1Word a).extractLsb' 8 6).toNat = a.threshold ∧ levels1Word a &&& 0xC0F8 = 0 := by
  have command := a.levelCommand.isLt
  refine ⟨toNat_field_wordOf (by decide) (by omega), unused_wordOf [3, 4, 5, 6, 7, 14, 15] (by decide) ?_⟩
  simp only [List.forall_mem_cons, List.not_mem_nil, false_imp_iff, implies_true, and_true]
  omega

/-! ### The view and the head record (R151, R188) -/

section
variable {s : State}

theorem viewStateWord_closed (closed : s.port.view = none) : viewStateWord s = 0xFF00 := by
  rw [viewStateWord, closed]
  rfl

theorem viewStateWord_open {v : OpenView} (view : s.port.view = some v) :
    viewStateWord s = makeWord (viewCodes v).1 (viewCodes v).2 := by
  rw [viewStateWord, view]

/-- The four registers of the head record of an empty queue. -/
theorem eventHead_empty (empty : s.events.records = []) :
    eventHead0 s = 0xFF00 ∧ eventHead1 s = 0x00FF ∧ eventHead2 s = 0 ∧ eventHead3 s = 0 := by
  rw [eventHead0, eventHead1, eventHead2, eventHead3, empty]
  exact ⟨rfl, rfl, rfl, rfl⟩

theorem eventHead_cons {r : EventRecord} {rest : List EventRecord} (held : s.events.records = r :: rest) :
    eventHead0 s = makeWord (eventKindCode r.kind) ((r.line.map lineCode).getD 0xFF)
      ∧ eventHead1 s = makeWord ((r.index.map byteOf).getD 0xFF) (r.tag.getD 0x00)
      ∧ eventHead2 s = makeWord (r.code.getD 0x00) (r.aux.getD 0x00) ∧ eventHead3 s = r.stamp := by
  rw [eventHead0, eventHead1, eventHead2, eventHead3, held]
  exact ⟨rfl, rfl, rfl, rfl⟩

/-! ### The window's guards (R186, R187) -/

theorem windowRead_held (low : s.pins.reset = .low) (address : WindowAddress) : windowRead s address = 0 := if_pos low

theorem windowRead_ready (high : s.pins.reset = .high) (ready : s.port.ready = true) (address : WindowAddress) :
    windowRead s address = registerContent s address := by
  rw [windowRead, if_neg (by simp [high]), if_pos ready]

theorem windowRead_status (high : s.pins.reset = .high) : windowRead s 0x00 = statusWord s := by
  rw [windowRead, if_neg (by simp [high])]
  exact ite_self _

theorem windowRead_unready (high : s.pins.reset = .high) (unready : s.port.ready = false) {address : WindowAddress}
    (other : address ≠ 0x00) : windowRead s address = 0 := by
  rw [windowRead, if_neg (by simp [high]), if_neg (by simp [unready]), if_neg other]

end

/-- Write-only registers and addresses not used read 0 (R168, R188). -/
theorem registerContent_unused (s : State) {address : WindowAddress}
    (unused : address ∈ [0x0B#5, 0x11#5, 0x12#5, 0x13#5, 0x15#5, 0x1B#5, 0x1C#5, 0x1E#5, 0x1F#5]) :
    registerContent s address = 0 := by
  simp only [List.mem_cons, List.not_mem_nil, or_false] at unused
  obtain rfl | rfl | rfl | rfl | rfl | rfl | rfl | rfl | rfl := unused <;> rfl

/-- Settles O60: the window's guards, then the registers one by one. -/
theorem windowReadsShowTheRegisters : Obligations.WindowReadsShowTheRegisters := by
  intro s
  refine ⟨windowRead_held, fun high => ?_⟩
  dsimp only
  rw [windowRead_status high]
  obtain ⟨readyBit, command, collision, lineA, lineB, supervision, unused⟩ := statusWord_fields s
  refine ⟨readyBit, command, collision, lineA, lineB, supervision, unused,
    fun unready _ => windowRead_unready high unready, fun ready => ?_⟩
  simp only [windowRead_ready high ready]
  obtain ⟨levelSupervision, levelLineA, levelLineB, levelEvents, unused0⟩ := levels0Word_fields s.arbiter
  exact ⟨rfl, rfl, rfl, rfl, rfl, rfl, rfl, rfl, eventHead_empty, fun _ _ => eventHead_cons, rfl, viewStateWord_closed,
    fun _ => ⟨viewStateWord_open, viewStateWord_open, viewStateWord_open⟩,
    fun _ => ⟨viewStateWord_open, viewStateWord_open⟩,
    fun _ => ⟨viewStateWord_open, viewStateWord_open, viewStateWord_open⟩,
    levelSupervision, levelLineA, levelLineB, levelEvents, unused0, levels1Word_command s.arbiter,
    levels1Word_threshold, rfl, fun _ => registerContent_unused s, rfl, intPendWord_flags s⟩

end Sys2Proof.Machine
end

section
/-! The Interrupt Arbiter (R156 to R166): IRQ and the winner of a claim, what each access to the Arbiter's registers
does, and the laws of the level stack and of the IRQ output. -/

namespace Sys2Proof.Machine

/-! ### Requests, IRQ and the winner (R159 to R161) -/

section
variable {a : Arbiter} {n : Nat} {src : Source}

theorem Arbiter.requesting_iff : a.requesting n src = true ↔ a.conditionOf n src = true ∧ a.levelOf src ≠ 0 := by
  simp [requesting, BitVec.pos_iff_ne_zero]

theorem mem_chain (src : Source) : src ∈ chain := by cases src <;> decide

theorem Arbiter.irqDecision_iff :
    a.irqDecision n = true ↔
      ∃ src, a.conditionOf n src = true ∧ a.levelOf src ≠ 0 ∧ a.service < a.levelOf src := by
  simp [irqDecision, requesting_iff, mem_chain, and_assoc]

/-- The law of the IRQ output says that IRQ is what R160 decides. -/
theorem irqLawful_iff {s : State} : irqLawful s ↔ s.arbiter.irq = s.arbiter.irqDecision s.events.records.length := by
  rw [irqLawful, ← Arbiter.irqDecision_iff]
  exact Bool.eq_iff_iff.symm

/-- How the winner of R161 is found: a requesting source replaces the best one so far where its level is higher. -/
def Arbiter.contend (a : Arbiter) (count : Nat) (best : Option Source) (src : Source) : Option Source :=
  if a.requesting count src then
    match best with
    | none => some src
    | some b => if a.levelOf b < a.levelOf src then some src else some b
  else best

theorem Arbiter.winner_eq_foldl : a.winner n = chain.foldl (a.contend n) none := rfl

/-- What is true of the best one so far and of a requesting source is true of the better one. -/
theorem Arbiter.contend_induct {P : Source → Prop} {best : Option Source} (held : ∀ b ∈ best, P b)
    (joins : a.requesting n src = true → P src) : ∀ b ∈ a.contend n best src, P b := by
  unfold contend
  split
  · next requests =>
    split
    · simpa using joins requests
    · split
      · simpa using joins requests
      · exact held
  · exact held

theorem Arbiter.contend_takes {best : Option Source} (requests : a.requesting n src = true)
    (lower : ∀ b ∈ best, a.levelOf b < a.levelOf src) : a.contend n best src = some src := by
  unfold contend
  rw [if_pos requests]
  split
  · rfl
  · next b => exact if_pos (lower b rfl)

theorem Arbiter.contend_keeps {other : Source}
    (reaches : a.requesting n other = true → a.levelOf other ≤ a.levelOf src) :
    a.contend n (some src) other = some src := by
  unfold contend
  split
  · next requests => exact if_neg (BitVec.not_lt.2 (reaches requests))
  · rfl

theorem Arbiter.winner_requests (wins : a.winner n = some src) : a.requesting n src = true := by
  have held : ∀ b ∈ a.winner n, a.requesting n b = true := by
    rw [winner_eq_foldl]
    exact List.foldlRecOn (motive := fun best => ∀ b ∈ best, a.requesting n b = true) chain _ (by simp)
      fun _ held _ _ => contend_induct held id
  exact held src wins

/-- The source ids rise along the chain (section 9.2, R188). -/
theorem chain_split (src : Source) :
    ∃ before after, chain = before ++ src :: after
      ∧ ∀ other ∈ before, (sourceCode other).toNat < (sourceCode src).toNat := by
  cases src with
  | supervision => exact ⟨[], _, rfl, by decide⟩
  | lineA => exact ⟨[.supervision], _, rfl, by decide⟩
  | lineB => exact ⟨[.supervision, .lineA], _, rfl, by decide⟩
  | events => exact ⟨[.supervision, .lineA, .lineB], _, rfl, by decide⟩
  | command => exact ⟨[.supervision, .lineA, .lineB, .events], _, rfl, by decide⟩

/-- The sources before `src` in the chain stay below its level, `src` takes the lead, and none behind it exceeds it. -/
theorem Arbiter.winner_eq_some (requests : a.requesting n src = true)
    (first : ∀ other, a.requesting n other = true → a.levelOf other < a.levelOf src
      ∨ a.levelOf other = a.levelOf src ∧ (sourceCode src).toNat ≤ (sourceCode other).toNat) :
    a.winner n = some src := by
  obtain ⟨before, after, split, earlier⟩ := chain_split src
  have lower : ∀ b ∈ before.foldl (a.contend n) none, a.levelOf b < a.levelOf src :=
    List.foldlRecOn (motive := fun best => ∀ b ∈ best, a.levelOf b < a.levelOf src) before _ (by simp)
      fun _ held other mem => contend_induct held fun joins =>
        (first other joins).resolve_right fun tie => absurd tie.2 (Nat.not_le.2 (earlier other mem))
  rw [winner_eq_foldl, split, List.foldl_append, List.foldl_cons, contend_takes requests lower]
  refine List.foldlRecOn (motive := (· = some src)) after _ rfl fun best leads other _ => ?_
  rw [leads]
  exact contend_keeps fun joins => (first other joins).elim BitVec.le_of_lt fun tie => BitVec.le_of_eq tie.1

end

/-! ### Updates of the Arbiter -/

@[simp] theorem Arbiter.withFlag_service (a : Arbiter) (src : Source) (v : Bool) :
    (a.withFlag src v).service = a.service := by
  cases src <;> rfl

@[simp] theorem Arbiter.withFlag_stack (a : Arbiter) (src : Source) (v : Bool) :
    (a.withFlag src v).stack = a.stack := by
  cases src <;> rfl

@[simp] theorem Arbiter.writeLevels_service (a : Arbiter) (register : LevelsRegister) (lanes : Lanes) (data : Word) :
    (a.writeLevels register lanes data).service = a.service := by
  cases register <;> rfl

@[simp] theorem Arbiter.writeLevels_stack (a : Arbiter) (register : LevelsRegister) (lanes : Lanes) (data : Word) :
    (a.writeLevels register lanes data).stack = a.stack := by
  cases register <;> rfl

/-- A claim clears the flag of the source it takes and no other; EVENTS has none (R157, R161). -/
theorem Arbiter.claim_eq (a : Arbiter) (src : Source) :
    a.claim src =
      { a with
        stack := a.service :: a.stack, service := a.levelOf src,
        pendingSupervision := a.pendingSupervision && decide (src ≠ .supervision),
        pendingLineA := a.pendingLineA && decide (src ≠ .lineA),
        pendingLineB := a.pendingLineB && decide (src ≠ .lineB),
        pendingCommand := a.pendingCommand && decide (src ≠ .command) } := by
  cases src <;> simp [claim, withFlag]

/-! ### The accesses (R161, R163 to R166) -/

section
variable {s : State} {lanes : Lanes} {data : Word} {src : Source}

theorem Lanes.includesLow_iff : lanes.includesLow = true ↔ lanes ≠ .high := by cases lanes <;> decide

theorem Lanes.includesHigh_iff : lanes.includesHigh = true ↔ lanes ≠ .low := by cases lanes <;> decide

/-- What a strobe's row answers while the window is open. -/
theorem next_of_windowOpen {t u v : State} (opened : windowOpen s = true) (acts : t = v) :
    (Host.Outcome.next (if windowOpen s then t else u) : Host.Outcome State Fault Refusal) = .next v :=
  congrArg Host.Outcome.next ((if_pos opened).trans acts)

theorem driveData_open (opened : windowOpen s = true) (w : Word) :
    driveData lanes w s = { s with port := { s.port with dataOut := mergeLanes lanes s.port.dataOut w } } := by
  rw [driveData, if_pos opened]

theorem claimed_eq_some :
    claimed s = some src ↔
      s.arbiter.winner s.events.records.length = some src ∧ s.arbiter.service < s.arbiter.levelOf src := by
  unfold claimed
  split
  · next best wins =>
    rw [wins, Option.some.injEq]
    split
    · next above => exact ⟨fun h => by cases h; exact ⟨rfl, above⟩, fun h => congrArg some h.1⟩
    · next below => exact ⟨fun h => (nomatch h), fun h => absurd (h.1 ▸ h.2) below⟩
  · next none => simp [none]

theorem claimed_eq_none
    (low : ∀ src, s.arbiter.requesting s.events.records.length src = true →
      s.arbiter.levelOf src ≤ s.arbiter.service) :
    claimed s = none := by
  refine Option.eq_none_iff_forall_ne_some.2 fun src claims => ?_
  obtain ⟨wins, above⟩ := claimed_eq_some.1 claims
  exact BitVec.not_lt.2 (low src (Arbiter.winner_requests wins)) above

theorem intClaim_some (claims : claimed s = some src) :
    intClaim lanes s = setArbiter (driveData lanes (claimWord s) s) (s.arbiter.claim src) := by
  rw [intClaim, claims]

theorem intClaim_none (idle : claimed s = none) : intClaim lanes s = driveData lanes (claimWord s) s := by
  rw [intClaim, idle]

theorem wordOf_bytes (lo hi : Byte) : wordOf (lo.toNat + 256 * hi.toNat) = makeWord lo hi := by
  refine BitVec.eq_of_toNat_eq ?_
  have low := lo.isLt
  have high := hi.isLt
  rw [wordOf, makeWord, BitVec.toNat_ofNat, BitVec.toNat_append, ← Nat.shiftLeft_add_eq_or_of_lt low,
    Nat.shiftLeft_eq]
  omega

theorem claimWord_some (claims : claimed s = some src) :
    claimWord s = makeWord (sourceCode src) ((s.arbiter.levelOf src).setWidth 8) := by
  rw [claimWord, claims, ← wordOf_bytes, BitVec.toNat_setWidth_of_le (by decide)]

theorem claimWord_none (idle : claimed s = none) : claimWord s = makeWord 0x00 (s.arbiter.service.setWidth 8) := by
  rw [claimWord, idle, ← wordOf_bytes, BitVec.toNat_setWidth_of_le (by decide)]
  simp

theorem intEos_cons {top : Level} {rest : List Level} (held : s.arbiter.stack = top :: rest) :
    intEos s = setArbiter s { s.arbiter with service := top, stack := rest } := by
  rw [intEos, held]

theorem intEos_nil (empty : s.arbiter.stack = []) :
    intEos s = { s with arbiter := { s.arbiter with eosError := true } } := by
  rw [intEos, empty]

theorem intSvcWrite_direct (low : lanes ≠ .high) (empty : s.arbiter.stack = []) (valid : (loByte data).toNat < 8) :
    intSvcWrite lanes data s = setArbiter s { s.arbiter with service := (loByte data).setWidth 3 } := by
  rw [intSvcWrite, if_pos (Lanes.includesLow_iff.2 low), if_pos ⟨empty, valid⟩]

theorem intSvcWrite_flagged (low : lanes ≠ .high) (bad : s.arbiter.stack ≠ [] ∨ 8 ≤ (loByte data).toNat) :
    intSvcWrite lanes data s = { s with arbiter := { s.arbiter with eosError := true } } := by
  rw [intSvcWrite, if_pos (Lanes.includesLow_iff.2 low), if_neg]
  rintro ⟨empty, valid⟩
  exact bad.elim (· empty) (Nat.not_le.2 valid)

theorem intSvcWrite_high : intSvcWrite .high data s = s := rfl

/-- A write of INT_SVC sets the service level of an empty stack, or raises the EOS error flag, or is ignored (R164). -/
theorem intSvcWrite_cases (lanes : Lanes) (data : Word) (s : State) :
    s.arbiter.stack = []
        ∧ intSvcWrite lanes data s = setArbiter s { s.arbiter with service := (loByte data).setWidth 3 }
      ∨ intSvcWrite lanes data s = { s with arbiter := { s.arbiter with eosError := true } }
      ∨ intSvcWrite lanes data s = s := by
  by_cases low : lanes = .high
  · subst low
    exact .inr (.inr intSvcWrite_high)
  · by_cases direct : s.arbiter.stack = [] ∧ (loByte data).toNat < 8
    · exact .inl ⟨direct.1, intSvcWrite_direct low direct.1 direct.2⟩
    · exact .inr (.inl (intSvcWrite_flagged low (by rwa [← Nat.not_lt, ← not_and_or])))

theorem intStatusRead_high (high : lanes ≠ .low) :
    intStatusRead lanes s =
      { driveData lanes (intStatusWord s) s with arbiter := { s.arbiter with eosError := false } } := by
  rw [intStatusRead, if_pos (Lanes.includesHigh_iff.2 high)]
  rfl

theorem intStatusRead_low : intStatusRead .low s = driveData .low (intStatusWord s) s := rfl

theorem intPendWrite_low (low : lanes ≠ .high) :
    intPendWrite lanes data s = setArbiter s (s.arbiter.clearMarked (loByte data)) :=
  if_pos (Lanes.includesLow_iff.2 low)

theorem intPendWrite_high : intPendWrite .high data s = s := rfl

end

/-! ### The law of the level stack (R163) -/

/-- A strictly falling list holds fewer levels than its head has below it. -/
theorem length_le_of_falling : ∀ {top : Level} {rest : List Level},
    (top :: rest).Pairwise (· > ·) → rest.length ≤ top.toNat
  | _, [], _ => Nat.zero_le _
  | top, next :: rest, falling => by
    obtain ⟨below, falling⟩ := List.pairwise_cons.1 falling
    have lower : next.toNat < top.toNat := below next List.mem_cons_self
    have shorter := length_le_of_falling falling
    rw [List.length_cons]
    omega

/-- Levels are at most 7, so the strict rise bounds the stack. -/
theorem Arbiter.stackLawful_iff {a : Arbiter} : a.stackLawful ↔ (a.service :: a.stack).Pairwise (· > ·) :=
  ⟨And.right, fun falling => ⟨(length_le_of_falling falling).trans (Nat.le_of_lt_succ a.service.isLt), falling⟩⟩

theorem Arbiter.stackLawful_congr {a b : Arbiter} (service : b.service = a.service) (stack : b.stack = a.stack) :
    b.stackLawful ↔ a.stackLawful := by
  rw [stackLawful_iff, stackLawful_iff, service, stack]

theorem Arbiter.stackLawful.claim {a : Arbiter} {src : Source} (h : a.stackLawful)
    (above : a.service < a.levelOf src) : (a.claim src).stackLawful := by
  rw [stackLawful_iff] at h ⊢
  refine List.pairwise_cons.2 ⟨fun level mem => ?_, h⟩
  obtain rfl | mem := List.mem_cons.1 mem
  · exact above
  · exact BitVec.lt_trans ((List.pairwise_cons.1 h).1 level mem) above

/-- A change that is accounted for keeps the law: a claim pushes below a higher level, an end of service pops, and a
direct write meets an empty stack. -/
theorem stackLawful_of_accounted {s t : State} (h : Accounted s t) (hs : s.arbiter.stackLawful) :
    t.arbiter.stackLawful := by
  cases h with
  | reporting h =>
    exact h.keeps (P := fun _ a => a.stackLawful) (fun _ _ lawful => lawful)
      (fun src u lawful => (Arbiter.stackLawful_congr (u.arbiter.withFlag_service src true)
        (u.arbiter.withFlag_stack src true)).2 lawful) hs
  | advanced => exact hs
  | claimed lanes =>
    cases claims : claimed s with
    | none =>
      rw [intClaim_none claims]
      exact hs
    | some src =>
      rw [intClaim_some claims]
      exact hs.claim (claimed_eq_some.1 claims).2
  | ended =>
    cases held : s.arbiter.stack with
    | nil =>
      rw [intEos_nil held]
      exact hs
    | cons top rest =>
      rw [intEos_cons held]
      rw [Arbiter.stackLawful_iff, held] at hs
      exact Arbiter.stackLawful_iff.2 (List.pairwise_cons.1 hs).2
  | served lanes data =>
    obtain ⟨empty, direct⟩ | flagged | ignored := intSvcWrite_cases lanes data s
    · rw [direct, Arbiter.stackLawful_iff]
      exact empty ▸ List.pairwise_singleton _ _
    · rw [flagged]
      exact hs
    · rw [ignored]
      exact hs
  | statusRead lanes | flagsCleared lanes data => cases lanes <;> exact hs
  | levelled register lanes data =>
    exact (Arbiter.stackLawful_congr (s.arbiter.writeLevels_service register lanes data)
      (s.arbiter.writeLevels_stack register lanes data)).2 hs
  | reset _ ha =>
    rw [ha]
    exact lawsHoldAtReset.2.1

/-- Settles O7: every step is accounted for, and what is accounted for keeps the law. -/
theorem levelStackLawKept : Obligations.LevelStackLawKept := by
  intro s t h hs
  obtain ⟨_, accounted⟩ := step_accounted h
  exact stackLawful_of_accounted accounted hs

/-! ### The law of the IRQ output (R160) -/

/-- IRQ decided anew is lawful, whatever it was. -/
theorem irqLawful_settleIrq (s : State) : irqLawful (settleIrq s) := irqLawful_iff.2 rfl

theorem irqLawful_setArbiter (s : State) (a : Arbiter) : irqLawful (setArbiter s a) := irqLawful_settleIrq _

theorem irqLawful_congr {s t : State} (events : t.events = s.events) (arbiter : t.arbiter = s.arbiter) :
    irqLawful t ↔ irqLawful s := by
  rw [irqLawful, irqLawful, events, arbiter]

/-- The EOS error flag is no input of IRQ (R160, R165). -/
theorem irqLawful_eosError {s t : State} {flag : Bool} (events : t.events = s.events)
    (arbiter : t.arbiter = { s.arbiter with eosError := flag }) : irqLawful t ↔ irqLawful s := by
  rw [irqLawful_iff, irqLawful_iff, events, arbiter]
  rfl

/-- A change that is accounted for keeps the law: what changes an input of IRQ decides it anew. -/
theorem irqLawful_of_accounted {s t : State} (h : Accounted s t) (hs : irqLawful s) : irqLawful t := by
  cases h with
  | reporting h =>
    rw [irqLawful_iff] at hs ⊢
    exact h.keeps (P := fun q a => a.irq = a.irqDecision q.records.length) (fun _ _ _ => rfl) (fun _ _ _ => rfl) hs
  | advanced => exact irqLawful_settleIrq _
  | claimed lanes =>
    cases claims : claimed s with
    | none =>
      rw [intClaim_none claims]
      exact (irqLawful_congr rfl rfl).2 hs
    | some src =>
      rw [intClaim_some claims]
      exact irqLawful_setArbiter _ _
  | ended =>
    cases held : s.arbiter.stack with
    | nil =>
      rw [intEos_nil held]
      exact (irqLawful_eosError rfl rfl).2 hs
    | cons top rest =>
      rw [intEos_cons held]
      exact irqLawful_setArbiter _ _
  | served lanes data =>
    obtain ⟨_, direct⟩ | flagged | ignored := intSvcWrite_cases lanes data s
    · rw [direct]
      exact irqLawful_setArbiter _ _
    · rw [flagged]
      exact (irqLawful_eosError rfl rfl).2 hs
    · rw [ignored]
      exact hs
  | statusRead lanes =>
    cases lanes with
    | low => exact (irqLawful_congr rfl rfl).2 hs
    | word | high => exact (irqLawful_eosError rfl rfl).2 hs
  | flagsCleared lanes data =>
    cases lanes with
    | high => exact hs
    | word | low => exact irqLawful_setArbiter _ _
  | levelled register lanes data => exact irqLawful_setArbiter _ _
  | reset he ha => exact (irqLawful_congr (s := State.reset) he ha).2 irqLawful_reset

/-- Settles O8: every step is accounted for, and what is accounted for keeps the law. -/
theorem irqLawKept : Obligations.IrqLawKept := by
  intro s t h hs
  obtain ⟨_, accounted⟩ := step_accounted h
  exact irqLawful_of_accounted accounted ((irqLawful_congr rfl rfl).2 hs)

/-! ### A claim (R161) -/

/-- Settles O54: the winner where one stands above the service level, else none. -/
theorem claimTakesTheWinner : Obligations.ClaimTakesTheWinner := by
  intro s lanes opened
  refine ⟨fun src requests above first => next_of_windowOpen opened ?_, fun low => next_of_windowOpen opened ?_⟩
  · have wins : s.arbiter.winner s.events.records.length = some src :=
      Arbiter.winner_eq_some (Arbiter.requesting_iff.2 requests) fun other joins =>
        first other (Arbiter.requesting_iff.1 joins)
    have claims := claimed_eq_some.2 ⟨wins, above⟩
    rw [intClaim_some claims, claimWord_some claims, driveData_open opened, Arbiter.claim_eq]
    rfl
  · have idle := claimed_eq_none fun src joins => low src (Arbiter.requesting_iff.1 joins)
    rw [intClaim_none idle, claimWord_none idle, driveData_open opened]

/-! ### The other accesses (R156, R158, R159, R163 to R166) -/

theorem intStatusWord_fields (s : State) :
    (s.arbiter.stack.length ≤ 7 → ((intStatusWord s).extractLsb' 4 3).toNat = s.arbiter.stack.length)
      ∧ intStatusWord s &&& 0xFE80 = 0 ∧ (intStatusWord s).getLsbD 0 = s.arbiter.irq
      ∧ (intStatusWord s).extractLsb' 1 3 = s.arbiter.service
      ∧ (intStatusWord s).getLsbD 8 = s.arbiter.eosError := by
  have irq := flag_le s.arbiter.irq
  have service := s.arbiter.service.isLt
  have eosError := flag_le s.arbiter.eosError
  refine ⟨fun depth => toNat_field_wordOf (by decide) (by omega),
    unused_wordOf [7, 9, 10, 11, 12, 13, 14, 15] (by decide) ?_, flag_wordOf (by decide) (by omega),
    field_wordOf (by decide) (by omega), flag_wordOf (by decide) (by omega)⟩
  simp only [List.forall_mem_cons, List.not_mem_nil, false_imp_iff, implies_true, and_true]
  omega

theorem getLsbD_loByte {i : Nat} (within : i < 8) (w : Word) : (loByte w).getLsbD i = w.getLsbD i := by
  rw [loByte, BitVec.getLsbD_extractLsb', decide_eq_true within, Bool.true_and, Nat.zero_add]

theorem Arbiter.clearMarked_loByte (a : Arbiter) (data : Word) :
    a.clearMarked (loByte data) =
      { a with
        pendingSupervision := a.pendingSupervision && !data.getLsbD 0,
        pendingLineA := a.pendingLineA && !data.getLsbD 1, pendingLineB := a.pendingLineB && !data.getLsbD 2,
        pendingCommand := a.pendingCommand && !data.getLsbD 4 } := by
  simp only [clearMarked, getLsbD_loByte, Nat.reduceLT]

theorem Arbiter.writeLevels_levels0 (a : Arbiter) (lanes : Lanes) (data : Word) :
    a.writeLevels .levels0 lanes data =
      { a with
        levelSupervision := if lanes ≠ .high then data.extractLsb' 0 3 else a.levelSupervision,
        levelLineA := if lanes ≠ .high then data.extractLsb' 4 3 else a.levelLineA,
        levelLineB := if lanes ≠ .low then data.extractLsb' 8 3 else a.levelLineB,
        levelEvents := if lanes ≠ .low then data.extractLsb' 12 3 else a.levelEvents } := by
  simp only [writeLevels, Lanes.includesLow_iff, Lanes.includesHigh_iff]

theorem Arbiter.writeLevels_levels1 (a : Arbiter) (lanes : Lanes) (data : Word) :
    a.writeLevels .levels1 lanes data =
      { a with
        levelCommand := if lanes ≠ .high then data.extractLsb' 0 3 else a.levelCommand,
        threshold := if lanes ≠ .low ∧ 1 ≤ fieldOf data 8 6 ∧ fieldOf data 8 6 ≤ 32 then fieldOf data 8 6
          else a.threshold } := by
  simp only [writeLevels, Lanes.includesLow_iff, Lanes.includesHigh_iff]

/-- Settles O55: each access by its own equations, the fields of INT_STATUS by their positions. -/
theorem arbiterAccessesAct : Obligations.ArbiterAccessesAct := by
  intro s lanes data opened
  obtain ⟨depth, unused, irq, service, eosError⟩ := intStatusWord_fields s
  refine ⟨fun top rest held => next_of_windowOpen opened (intEos_cons held),
    fun empty => next_of_windowOpen opened (intEos_nil empty),
    fun low empty valid => next_of_windowOpen opened (intSvcWrite_direct low empty valid),
    fun low bad => next_of_windowOpen opened (intSvcWrite_flagged low bad), ?_,
    fun high => next_of_windowOpen opened ?_, ?_, depth, unused, irq, service, eosError,
    fun low => next_of_windowOpen opened ?_, next_of_windowOpen opened ?_, next_of_windowOpen opened ?_⟩
  · rintro rfl
    exact ⟨next_of_windowOpen opened intSvcWrite_high, next_of_windowOpen opened intPendWrite_high⟩
  · rw [intStatusRead_high high, driveData_open opened]
  · rintro rfl
    exact next_of_windowOpen opened (intStatusRead_low.trans (driveData_open opened _))
  · rw [intPendWrite_low low, Arbiter.clearMarked_loByte]
    rfl
  · rw [intLevelsWrite, Arbiter.writeLevels_levels0]
    rfl
  · rw [intLevelsWrite, Arbiter.writeLevels_levels1]
    rfl

end Sys2Proof.Machine
end

section
/-! The resets and the closed window (R186, R187): what SOFT_RESET's completion and the edges of the RESET pin leave, and
that a strobe on a closed window writes nothing and reads 0. -/

namespace Sys2Proof.Machine

/-! ### Resets (R186, R187) -/

/-- Every block at its reset value (R186, R187), with this READY and this command state; the queue, the input pins, the
count of free values and the word driven last are not the reset's (logs 7 to 9). -/
def State.cleared (s : State) (ready : Bool) (pins : Pins) (state : CommandState) : State :=
  { State.reset with
    pending := s.pending, pins := pins, freeCount := s.freeCount,
    port := { HostPort.reset with ready := ready, dataOut := s.port.dataOut },
    command := { CommandEngine.reset with state := state } }

section
variable {s : State}

theorem softReset_completes {p : TakenCommand} (taken : s.inProgress 0x5F = some p)
    (silentA : (s.engineAt .a).driverEnable = false) (silentB : (s.engineAt .b).driverEnable = false) :
    softReset s = s.cleared true s.pins .done :=
  if_pos ⟨Option.isSome_of_mem taken, silentA, silentB⟩

theorem pinResetAssert_high (high : s.pins.reset = .high) :
    pinResetAssert s = s.cleared false { s.pins with reset := .low } .idle := if_pos high

theorem pinResetRelease_low (low : s.pins.reset = .low) :
    pinResetRelease s = s.cleared false { s.pins with reset := .high } .idle := if_pos low

theorem readyAfterReset_ready (high : s.pins.reset = .high) (unready : s.port.ready = false)
    (idle : s.command.state = .idle) : readyAfterReset s = { s with port := { s.port with ready := true } } :=
  if_pos ⟨high, unready, idle⟩

/-! ### The closed window (R186, R187) -/

theorem windowOpen_eq_false : windowOpen s = false ↔ s.pins.reset = .low ∨ s.port.ready = false := by
  cases pin : s.pins.reset <;> simp [windowOpen, pin]

/-- What a strobe's row answers while the window is closed. -/
theorem next_of_windowClosed {t u v : State} (closed : windowOpen s = false) (idles : u = v) :
    (Host.Outcome.next (if windowOpen s then t else u) : Host.Outcome State Fault Refusal) = .next v :=
  congrArg Host.Outcome.next ((if_neg (by simp [closed])).trans idles)

theorem driveData_closed (closed : windowOpen s = false) (lanes : Lanes) (w : Word) :
    driveData lanes w s = { s with port := { s.port with dataOut := mergeLanes lanes s.port.dataOut 0 } } := by
  rw [driveData, if_neg (by simp [closed])]

/-- The writes that have a row of their own: through a closed window each leaves the state. -/
theorem exec_write_closed (closed : windowOpen s = false) (lanes : Lanes) (data : Word) {i : Instr}
    (row : i ∈ [Instr.commandTake lanes data, .commandCollision lanes data, .evtAdvance lanes data,
      .intEos lanes data, .intSvcWrite lanes data, .intPendWrite lanes data, .intLevelsWrite .levels0 lanes data,
      .intLevelsWrite .levels1 lanes data, .supvRefresh lanes data, .dataWrite lanes data,
      .viewOffsetWrite lanes data]) : exec i s = .next s := by
  simp only [List.mem_cons, List.not_mem_nil, or_false] at row
  obtain rfl | rfl | rfl | rfl | rfl | rfl | rfl | rfl | rfl | rfl | rfl := row <;>
    exact next_of_windowClosed closed rfl

/-- The reads that have a row of their own: through a closed window each drives 0 and takes nothing. -/
theorem exec_read_closed (closed : windowOpen s = false) (lanes : Lanes) {i : Instr}
    (row : i ∈ [Instr.intClaim lanes, .intStatusRead lanes, .dataRead lanes]) :
    exec i s = .next { s with port := { s.port with dataOut := mergeLanes lanes s.port.dataOut 0 } } := by
  simp only [List.mem_cons, List.not_mem_nil, or_false] at row
  obtain rfl | rfl | rfl := row <;> exact next_of_windowClosed closed (driveData_closed closed lanes 0)

end

/-- Settles O59: each reset by its own equation, then each strobe on the closed window. -/
theorem resetsClearEveryBlock : Obligations.ResetsClearEveryBlock := by
  intro s
  refine ⟨fun p taken silentA silentB => ?_, fun high => ?_, fun low => ?_, fun high unready idle => ?_,
    fun shut lanes data => ?_⟩
  · exact congrArg Host.Outcome.next (softReset_completes taken silentA silentB)
  · exact congrArg Host.Outcome.next (pinResetAssert_high high)
  · exact congrArg Host.Outcome.next (pinResetRelease_low low)
  · exact congrArg Host.Outcome.next (readyAfterReset_ready high unready idle)
  · have closed := windowOpen_eq_false.2 shut
    exact ⟨fun _ => exec_write_closed closed lanes data, fun _ => next_of_windowClosed closed rfl,
      fun _ => exec_read_closed closed lanes⟩

end Sys2Proof.Machine
end

section
/-! Refusals (R182, R184): a command's body that does not answer OK or OK_DEFERRED gives the state it was given, and its
completion adds the results alone. -/

namespace Sys2Proof.Machine

/-! ### Bodies that refuse in place -/

/-- What a command's checks and effects give changes no state unless the result is OK or OK_DEFERRED (R182, R184). -/
def Completion.RefusesInPlace (c : Completion) (s : State) : Prop :=
  c.result ≠ .ok → c.result ≠ .okDeferred → c.state = s

namespace Completion.RefusesInPlace

variable {s t : State}

theorem refused {result : CommandResult} {detail : Nat} : (refuse s result detail).RefusesInPlace s := fun _ _ => rfl

theorem ok {detail : Nat} : ({ state := t, result := .ok, detail := detail } : Completion).RefusesInPlace s :=
  fun bad _ => absurd rfl bad

theorem deferred {detail : Nat} :
    ({ state := t, result := .okDeferred, detail := detail } : Completion).RefusesInPlace s :=
  fun _ bad => absurd rfl bad

theorem either {c : Prop} [Decidable c] {a b : Completion} (ha : a.RefusesInPlace s) (hb : b.RefusesInPlace s) :
    (if c then a else b).RefusesInPlace s := by
  split
  · exact ha
  · exact hb

end Completion.RefusesInPlace

/-! ### The commands -/

section
open Completion.RefusesInPlace
variable (p : TakenCommand) (s : State)

theorem defineStation_refusesInPlace : (defineStation p s).RefusesInPlace s := by
  unfold defineStation
  dsimp only
  split
  · exact refused
  · refine either refused ?_
    split
    · exact refused
    · exact ok

theorem dropStation_refusesInPlace : (dropStation p s).RefusesInPlace s :=
  either refused (either refused (either refused (either refused (either refused ok))))

theorem enableStation_refusesInPlace : (enableStation p s).RefusesInPlace s :=
  either refused (either refused (either refused ok))

theorem disableStation_refusesInPlace : (disableStation p s).RefusesInPlace s := either refused (either refused ok)

theorem setStationLimits_refusesInPlace : (setStationLimits p s).RefusesInPlace s := by
  unfold setStationLimits
  dsimp only
  split
  · exact refused
  · exact either refused ok

theorem loadSweep_refusesInPlace : (loadSweep p s).RefusesInPlace s := by
  refine either refused (either refused ?_)
  split
  · exact refused
  · split
    · exact ok
    · exact ok
    · exact deferred
    · exact deferred

theorem setLine_refusesInPlace : (setLine p s).RefusesInPlace s := by
  unfold setLine
  dsimp only
  split
  · exact refused
  · exact either refused ok

theorem setPeriod_refusesInPlace : (setPeriod p s).RefusesInPlace s := by
  unfold setPeriod
  dsimp only
  split
  · exact refused
  · split <;> exact ok

theorem startLine_refusesInPlace : (startLine p s).RefusesInPlace s :=
  either refused (either refused (either refused (either refused ok)))

theorem stopLine_refusesInPlace : (stopLine p s).RefusesInPlace s :=
  either refused (either refused (either ok deferred))

theorem abortLine_refusesInPlace : (abortLine p s).RefusesInPlace s :=
  either refused (either refused (either ok (either ok ok)))

theorem sweepNow_refusesInPlace : (sweepNow p s).RefusesInPlace s := either refused (either refused (either refused ok))

theorem postRequest_refusesInPlace : (postRequest p s).RefusesInPlace s := by
  unfold postRequest
  dsimp only
  split
  · exact refused
  · split
    · exact refused
    · exact ok

theorem cancelRequest_refusesInPlace : (cancelRequest p s).RefusesInPlace s := by
  refine either refused ?_
  split
  · exact refused
  · exact refused
  · exact refused
  · exact ok
  · exact either refused deferred

theorem flushRequests_refusesInPlace : (flushRequests p s).RefusesInPlace s := by
  unfold flushRequests
  dsimp only
  split
  · exact refused
  · exact ok

theorem collectRequest_refusesInPlace : (collectRequest p s).RefusesInPlace s := by
  refine either refused ?_
  split
  · exact refused
  · exact refused
  · exact refused
  · exact either refused ok
  · exact either refused ok

theorem commitCall_refusesInPlace : (commitCall p s).RefusesInPlace s := by
  refine either refused (either refused (either refused (either refused ?_)))
  split
  · exact ok
  · exact ok
  · exact deferred
  · exact deferred

theorem openView_refusesInPlace : (openView p s).RefusesInPlace s := by
  unfold openView
  split
  · exact refused
  · split
    · exact refused
    · exact ok

theorem setSupervision_refusesInPlace : (setSupervision p s).RefusesInPlace s := either refused (either refused ok)

end

/-! ### Their completions (R182) -/

/-- The completion `c` of the command with this code: without that command in progress nothing changes (log 3); else it
ends DONE with COMMAND pending, and with a result that refuses it changes nothing else (R182, R184). -/
def RefusalIsQuiet (c : Instr) (code : Byte) : Prop :=
  ∀ s : State,
    (s.inProgress code = none → exec c s = .next s)
      ∧ ∀ p, s.inProgress code = some p → ∃ t, exec c s = .next t
        ∧ t.command.state = .done ∧ t.arbiter.pendingCommand = true
        ∧ (t.command.result0 ≠ 0x0000 → t.command.result0 ≠ 0x0001 →
          ∃ result detail, t = s.completed result detail)

theorem refusalIsQuiet {c : Instr} {code : Byte} {body : TakenCommand → State → Completion}
    (row : ∀ s, exec c s = .next (completeCommand code body s)) (quiet : ∀ p s, (body p s).RefusesInPlace s) :
    RefusalIsQuiet c code := fun s => by
  refine ⟨fun idle => (row s).trans (congrArg _ (completeCommand_of_none idle)), fun p taken => ?_⟩
  refine ⟨_, (row s).trans (next_completeCommand taken rfl), rfl, rfl, fun notOk notDeferred => ?_⟩
  have refused := quiet p s (fun ok => notOk (congrArg (wordOf ∘ commandResultCode) ok))
    (fun deferred => notDeferred (congrArg (wordOf ∘ commandResultCode) deferred))
  rw [refused]
  exact ⟨_, _, rfl⟩

/-- Settles O15: every command's body refuses in place. -/
theorem refusedCommandsChangeNothing : Obligations.RefusedCommandsChangeNothing := by
  suffices every : ∀ row ∈ completions, RefusalIsQuiet row.1 row.2 from fun c code listed => every (c, code) listed
  simp only [completions, List.forall_mem_cons, List.not_mem_nil, false_imp_iff, implies_true, and_true]
  exact ⟨refusalIsQuiet (fun _ => rfl) defineStation_refusesInPlace,
    refusalIsQuiet (fun _ => rfl) dropStation_refusesInPlace,
    refusalIsQuiet (fun _ => rfl) enableStation_refusesInPlace,
    refusalIsQuiet (fun _ => rfl) disableStation_refusesInPlace,
    refusalIsQuiet (fun _ => rfl) setStationLimits_refusesInPlace,
    refusalIsQuiet (fun _ => rfl) loadSweep_refusesInPlace,
    refusalIsQuiet (fun _ => rfl) setLine_refusesInPlace,
    refusalIsQuiet (fun _ => rfl) setPeriod_refusesInPlace,
    refusalIsQuiet (fun _ => rfl) startLine_refusesInPlace,
    refusalIsQuiet (fun _ => rfl) stopLine_refusesInPlace,
    refusalIsQuiet (fun _ => rfl) abortLine_refusesInPlace,
    refusalIsQuiet (fun _ => rfl) sweepNow_refusesInPlace,
    refusalIsQuiet (fun _ => rfl) postRequest_refusesInPlace,
    refusalIsQuiet (fun _ => rfl) cancelRequest_refusesInPlace,
    refusalIsQuiet (fun _ => rfl) flushRequests_refusesInPlace,
    refusalIsQuiet (fun _ => rfl) collectRequest_refusesInPlace,
    refusalIsQuiet (fun _ => rfl) commitCall_refusesInPlace,
    refusalIsQuiet (fun _ => rfl) openView_refusesInPlace,
    refusalIsQuiet (fun _ => rfl) fun _ _ => .ok,
    refusalIsQuiet (fun _ => rfl) setSupervision_refusesInPlace⟩

end Sys2Proof.Machine
end

section
/-! The Command Engine's registers (R168, R169, R180, R181, R184, R186): a write to CMD by the command state, what the
take of a SOFT_RESET leaves of the lines, the ordinary registers, and the completion of an unknown code. -/

namespace Sys2Proof.Machine

/-! ### The lines' activity ended at a take (R186, log 13) -/

section
variable {x : Line} {s : State}

/-- It changes Line Engines and Sweep Controllers alone. -/
theorem endQuietly_frame (x : Line) (s : State) :
    endQuietly x s = { s with engine := (endQuietly x s).engine, sweep := (endQuietly x s).sweep } := by
  unfold endQuietly
  split
  · rfl
  · split <;> rfl

/-- A line in CALLING is STOPPING until its character ends (log 39). -/
theorem endQuietly_calling (calling : (s.engineAt x).exState = .calling) :
    (endQuietly x s).engineAt x = { s.engineAt x with abortPending := true, control := .stopping } := by
  rw [endQuietly, if_pos calling, engineAt_modEngine_self]

/-- A line with nothing on its transmit pin, unless HALTED, is at rest at once. -/
theorem endQuietly_silent (silent : (s.engineAt x).exState ≠ .calling) (alive : (s.engineAt x).control ≠ .halted) :
    ((endQuietly x s).engineAt x).control = .stopped ∧ ((endQuietly x s).engineAt x).exchange = none
      ∧ ((endQuietly x s).engineAt x).exState = .idle ∧ ((endQuietly x s).sweepAt x).state = .inactive := by
  rw [endQuietly, if_neg silent, if_neg alive, modSweep_engineAt, engineAt_modEngine_self, sweepAt_modSweep_self]
  exact ⟨rfl, rfl, rfl, rfl⟩

theorem endQuietly_other {y : Line} (other : y ≠ x) :
    (endQuietly x s).engineAt y = s.engineAt y ∧ (endQuietly x s).sweepAt y = s.sweepAt y := by
  unfold endQuietly
  split
  · simp [engineAt_modEngine, other]
  · split
    · exact ⟨rfl, rfl⟩
    · simp [engineAt_modEngine, sweepAt_modSweep, other]

/-- What becomes of a line follows from that line alone. -/
theorem endQuietly_congr {t : State} (engine : t.engineAt x = s.engineAt x) (sweep : t.sweepAt x = s.sweepAt x) :
    (endQuietly x t).engineAt x = (endQuietly x s).engineAt x
      ∧ (endQuietly x t).sweepAt x = (endQuietly x s).sweepAt x := by
  unfold endQuietly
  rw [engine]
  split
  · simp [engine, sweep]
  · split
    · exact ⟨engine, sweep⟩
    · simp [engine, sweep]

/-- Both lines' activity ended: each line as it is ended alone. -/
theorem endQuietly_both (x : Line) (s : State) :
    (endQuietly .b (endQuietly .a s)).engineAt x = (endQuietly x s).engineAt x
      ∧ (endQuietly .b (endQuietly .a s)).sweepAt x = (endQuietly x s).sweepAt x := by
  cases x with
  | a => exact endQuietly_other (by decide)
  | b =>
    obtain ⟨engine, sweep⟩ := endQuietly_other (s := s) (x := .a) (y := .b) (by decide)
    exact endQuietly_congr engine sweep

end

/-! ### A write to CMD (R169, R180, R181) -/

/-- The Command Engine behind a take: the parameters copied beside the merged code (R180). -/
def CommandEngine.took (c : CommandEngine) (cmd : Word) : CommandEngine :=
  { c with
    cmd := cmd, state := .busy,
    taken := some { code := cmd, param0 := c.param0, param1 := c.param1, param2 := c.param2, param3 := c.param3 } }

section
variable {s : State} {lanes : Lanes} {data : Word}

theorem cmdWrite_takes (free : s.command.state ≠ .busy) :
    cmdWrite lanes data s = takeCommand (mergeLanes lanes s.command.cmd data) s := by
  unfold cmdWrite
  cases state : s.command.state with
  | idle | done => rfl
  | busy => exact absurd state free

theorem cmdWrite_collides (busy : s.command.state = .busy) :
    cmdWrite lanes data s =
      { s with
        command := { s.command with cmd := mergeLanes lanes s.command.cmd data },
        port := { s.port with collision := true } } := by
  simp only [cmdWrite, busy]

theorem takeCommand_ordinary {cmd : Word} (ordinary : loByte cmd ≠ 0x5F) :
    takeCommand cmd s = { s with command := s.command.took cmd, port := { s.port with collision := false } } :=
  if_neg ordinary

theorem takeCommand_softReset {cmd : Word} (reset : loByte cmd = 0x5F) :
    takeCommand cmd s =
      endQuietly .b (endQuietly .a
        { s with command := s.command.took cmd, port := { s.port with collision := false, ready := false } }) :=
  if_pos reset

/-! ### Ordinary registers (R168) -/

/-- A write that has no row of its own, at none of the PARAM registers, is ignored (R168). -/
theorem windowWrite_ignored {address : WindowAddress} (rowless : hasRowOfItsOwn address lanes = false)
    (other : address ∉ [0x02#5, 0x03#5, 0x04#5, 0x05#5]) : windowWrite address lanes data s = s := by
  obtain ⟨ordinary, lowByte⟩ : address ∉ [0x01#5, 0x0A#5, 0x11#5, 0x15#5, 0x18#5, 0x19#5, 0x1A#5, 0x1C#5]
      ∧ (address ∈ [0x09#5, 0x16#5] → lanes = .high) := by
    refine (Laws.WellFormed.registerWrite address lanes data).1 ?_
    rw [Instr.wellFormed, rowless]
    rfl
  by_cases shared : address ∈ [0x09#5, 0x16#5]
  · obtain rfl := lowByte shared
    simp only [List.mem_cons, List.not_mem_nil, or_false] at shared
    obtain rfl | rfl := shared <;> rfl
  · have unwritable : writableAt address = none := by
      simp only [List.mem_cons, List.not_mem_nil, or_false, not_or] at ordinary other shared
      simp [writableAt, ordinary, other, shared]
    rw [windowWrite, unwritable]

/-! ### UNKNOWN_COMMAND (R184) -/

theorem unknownCommand_completes {p : TakenCommand} (busy : s.command.state = .busy)
    (taken : s.command.taken = some p) (unknown : loByte p.code ∉ commandCodes) :
    unknownCommand s = s.completed .unknownCommand 0 := by
  simp only [unknownCommand, busy, taken, if_neg unknown]
  rfl

end

/-- Settles O58: a write to CMD by the command state and the code, then the ordinary registers, then the completion of
an unknown code. -/
theorem commandWritesAct : Obligations.CommandWritesAct := by
  intro s
  refine ⟨fun opened lanes data => ⟨fun i row => ?_, next_of_windowOpen opened rfl, next_of_windowOpen opened rfl,
    next_of_windowOpen opened rfl, next_of_windowOpen opened rfl,
    fun _ rowless other => next_of_windowOpen opened (windowWrite_ignored rowless other)⟩,
    fun p busy taken unknown => congrArg Host.Outcome.next (unknownCommand_completes busy taken unknown)⟩
  have acts : exec i s = .next (cmdWrite lanes data s) := by
    obtain rfl | rfl := row <;> exact next_of_windowOpen opened rfl
  rw [acts]
  refine ⟨fun free ordinary => ?_, fun free reset => ?_, fun busy => congrArg _ (cmdWrite_collides busy)⟩
  · rw [cmdWrite_takes free, takeCommand_ordinary ordinary]
    rfl
  · rw [cmdWrite_takes free, takeCommand_softReset reset]
    refine ⟨_, rfl, ?_, fun x => ?_⟩
    · rw [endQuietly_frame .b, endQuietly_frame .a]
      rfl
    · rw [(endQuietly_both x _).1, (endQuietly_both x _).2]
      exact ⟨fun calling => endQuietly_calling calling, fun silent alive => endQuietly_silent silent alive⟩

end Sys2Proof.Machine
end

section
/-! The bytes of the views (R172, R188, R190) and reads of the data port (R175 to R177). -/

namespace Sys2Proof.Machine

/-! ### Bytes of words and lanes (R168, R188) -/

@[simp] theorem loByte_makeWord (lo hi : Byte) : loByte (makeWord lo hi) = lo := by
  rw [loByte, makeWord, BitVec.extractLsb'_append_eq_right]

@[simp] theorem hiByte_makeWord (lo hi : Byte) : hiByte (makeWord lo hi) = hi := by
  rw [hiByte, makeWord, BitVec.extractLsb'_append_eq_left]

/-- A read of DATA changes the enabled lanes alone (R168, R176). -/
theorem mergeLanes_aheadWord (lanes : Lanes) (old : Word) (ahead : ReadAhead) :
    mergeLanes lanes old (aheadWord lanes ahead) =
      match lanes with
      | .word => makeWord ahead.first ahead.second
      | .low => makeWord ahead.first (hiByte old)
      | .high => makeWord (loByte old) ahead.first := by
  cases lanes <;> simp [mergeLanes, aheadWord]

theorem byteOf_bytesMoved (lanes : Lanes) : byteOf (bytesMoved lanes) = if lanes = .word then 2 else 1 := by
  cases lanes <;> rfl

/-! ### Reads of the data port (R175 to R177) -/

section
variable {s : State} {v : OpenView}

/-- The bytes of a view stand in the Data Store, the Request Pool and the snapshot. -/
theorem viewBytes_congr {t : State} (store : t.store = s.store) (pool : t.pool = s.pool)
    (snapshot : t.port.snapshot = s.port.snapshot) (v : OpenView) : viewBytes t v = viewBytes s v := by
  cases v <;>
    simp only [viewBytes, State.callPairAt, State.answerPairAt, State.requestCallAt, State.descriptorAt,
      State.requestAnswerAt, store, pool, snapshot]

theorem portByte_open (view : s.port.view = some v) (k : Byte) : portByte s k = (viewBytes s v).getD k.toNat 0 := by
  rw [portByte, view]

theorem currentAhead_held {ahead : ReadAhead} (held : s.port.readAhead = some ahead)
    (fits : ahead.offset = s.port.offset) : currentAhead s = ahead := by
  simp only [currentAhead, held, if_pos fits]

theorem currentAhead_fetched (stale : ∀ ahead, s.port.readAhead = some ahead → ahead.offset ≠ s.port.offset) :
    currentAhead s = fetchAhead s s.port.offset := by
  unfold currentAhead
  split
  · next ahead held => exact if_neg (stale ahead held)
  · rfl

/-- The read-ahead filled from an open view holds its two bytes from the offset on. -/
theorem fetchAhead_open (view : s.port.view = some v) (offset : Byte) :
    fetchAhead s offset =
      { offset := offset, first := (viewBytes s v).getD offset.toNat 0,
        second := (viewBytes s v).getD (offset + 1).toNat 0 } := by
  rw [fetchAhead, portByte_open view, portByte_open view]

/-- A read with a view open: the read-ahead's bytes are driven, the offset moves on, and the read-ahead is filled at the
new offset. -/
theorem dataRead_open (view : s.port.view = some v) (opened : windowOpen s = true) (lanes : Lanes) :
    dataRead lanes s =
      { s with
        port := { s.port with
          offset := s.port.offset + byteOf (bytesMoved lanes),
          readAhead := some
            { offset := s.port.offset + byteOf (bytesMoved lanes),
              first := (viewBytes s v).getD (s.port.offset + byteOf (bytesMoved lanes)).toNat 0,
              second := (viewBytes s v).getD (s.port.offset + byteOf (bytesMoved lanes) + 1).toNat 0 },
          dataOut := mergeLanes lanes s.port.dataOut (aheadWord lanes (currentAhead s)) } } := by
  have isOpen : s.port.view.isSome = true := Option.isSome_of_mem view
  rw [dataRead, if_pos isOpen, driveData_open opened, advanceOffset, if_pos isOpen]
  dsimp only
  rw [fetchAhead_open (v := v), viewBytes_congr (s := s)]
  exacts [rfl, rfl, rfl, view]

theorem dataRead_closed (closed : s.port.view = none) (opened : windowOpen s = true) (lanes : Lanes) :
    dataRead lanes s = { s with port := { s.port with dataOut := mergeLanes lanes s.port.dataOut 0 } } := by
  rw [dataRead, if_neg (by simp [closed]), driveData_open opened]

theorem viewOffsetWrite_low {lanes : Lanes} (low : lanes ≠ .high) (view : s.port.view ≠ none) (data : Word) :
    viewOffsetWrite lanes data s = { s with port := { s.port with offset := loByte data, readAhead := none } } :=
  if_pos ⟨Lanes.includesLow_iff.2 low, Option.isSome_iff_ne_none.2 view⟩

theorem viewOffsetWrite_ignored {lanes : Lanes} (ignored : lanes = .high ∨ s.port.view = none) (data : Word) :
    viewOffsetWrite lanes data s = s := by
  refine if_neg ?_
  rintro ⟨low, view⟩
  exact ignored.elim (Lanes.includesLow_iff.1 low) (Option.isSome_iff_ne_none.1 view)

end

/-! ### The offsets of R190 -/

/-- The bytes of a DONE descriptor's view by its fields; an absent one shows 00h (log 25). -/
theorem requestAnswerBytes_eq (r : Descriptor) (a : RequestAnswer) :
    requestAnswerBytes r a =
      [descriptorStateCode r.state, r.tag, (match r.target with | some z => targetCode z | none => 0x00),
        lineCode r.line, r.functionCode, urgencyCode r.urgency, byteOf r.answerMax, byteOf r.attemptsUsed,
        (match r.result with | some o => exchangeResultCode o | none => 0x00), loByte (r.stamp.getD 0),
        hiByte (r.stamp.getD 0), yesNo a.valid, byteOf a.length, a.status, loByte a.stamp, hiByte a.stamp]
          ++ a.bytes.toList := by
  unfold requestAnswerBytes
  cases r.target <;> cases r.result <;> rfl

/-- Settles O52: a read by the view and the read-ahead, the views' bytes by their layout, then VIEW_OFFSET. -/
theorem dataReadsMoveTheOffset : Obligations.DataReadsMoveTheOffset := by
  intro s lanes opened
  refine ⟨fun v view => ?_, fun closed => next_of_windowOpen opened (dataRead_closed closed opened lanes), fun _ => rfl,
    fun _ => rfl, fun _ => rfl, fun _ => rfl, fun d => requestAnswerBytes_eq _ _, fun _ => rfl, fun _ => rfl,
    fun _ => rfl, fun data => ⟨fun low view => ?_, fun ignored => ?_⟩⟩
  · have read := dataRead_open view opened lanes
    rw [byteOf_bytesMoved, mergeLanes_aheadWord] at read
    refine ⟨fun ahead held fits => ?_, fun stale => ?_⟩
    · rw [currentAhead_held held fits] at read
      exact next_of_windowOpen opened read
    · rw [currentAhead_fetched stale, fetchAhead_open view] at read
      exact next_of_windowOpen opened read
  · exact next_of_windowOpen opened (viewOffsetWrite_low low view data)
  · exact next_of_windowOpen opened (viewOffsetWrite_ignored ignored data)

end Sys2Proof.Machine
end

section
/-! Writes of the data port (R89, R175 to R177): where a byte lands in a view, and what stays. -/

namespace Sys2Proof.Machine

/-! ### A byte that does not land (R89, R175) -/

theorem setByte_beyond {n : Nat} {v : Vector Byte n} {k : Nat} (beyond : n ≤ k) (b : Byte) : setByte v k b = v :=
  dif_neg (Nat.not_lt.2 beyond)

section
variable {k : Nat} {b : Byte}

theorem CallBuffer.writeByte_ignored {c : CallBuffer} (ignored : ¬ (k < 33 ∧ (k = 0 → b.toNat ≤ 32))) :
    c.writeByte k b = c := by
  unfold writeByte
  split
  · next zero => exact if_neg fun fits => ignored ⟨by omega, fun _ => fits⟩
  · rw [setByte_beyond (by omega)]

theorem SafeCallBuffer.writeByte_ignored {c : SafeCallBuffer} (ignored : ¬ (k < 34 ∧ (k = 1 → b.toNat ≤ 32))) :
    c.writeByte k b = c := by
  unfold writeByte
  rw [if_neg (by omega)]
  split
  · next one => exact if_neg fun fits => ignored ⟨by omega, fun _ => fits⟩
  · rw [setByte_beyond (by omega)]

theorem BuildArea.writeByte_ignored {a : BuildArea} (ignored : ¬ k < 145) : a.writeByte k b = a := by
  rw [writeByte, if_neg (by omega), setByte_beyond (by omega)]

end

/-! ### Data replaced by itself -/

theorem CallPair.withStaged_staged (p : CallPair) : p.withStaged p.staged = p := by
  cases p with
  | mk first second firstIsLive => cases firstIsLive <;> rfl

theorem PerLine.set_get {α : Type} (p : PerLine α) (x : Line) : p.set x (p.get x) = p := by cases x <;> rfl

section
variable (s : State)

theorem setCallPair_same (i : Fin 32) : s.setCallPair i (s.callPairAt i) = s := by
  simp [State.setCallPair, State.callPairAt]

theorem setRequestCall_same (d : Fin 16) : s.setRequestCall d (s.requestCallAt d) = s := by
  simp [State.setRequestCall, State.requestCallAt]

theorem setBuild_same (x : Line) : s.setBuild x (s.store.builds.get x) = s := by
  simp [State.setBuild, PerLine.set_get]

theorem setSafeCall_same (x : Line) : s.setSafeCall x (s.store.safeCalls.get x) = s := by
  simp [State.setSafeCall, PerLine.set_get]

end

/-! ### One byte written through a view (R89, R172, R175, R190) -/

/-- The state after byte `k` of a view is written with `b`. -/
def State.writeView (s : State) (v : OpenView) (k : Nat) (b : Byte) : State :=
  match v with
  | .stationCall i => s.setCallPair i ((s.callPairAt i).withStaged ((s.callPairAt i).staged.writeByte k b))
  | .requestCall d => s.setRequestCall d ((s.requestCallAt d).writeByte k b)
  | .sweepBuild x => s.setBuild x ((s.store.builds.get x).writeByte k b)
  | .safeCall x => s.setSafeCall x ((s.store.safeCalls.get x).writeByte k b)
  | .stationAnswer _ | .stationInfo _ | .requestAnswer _ | .lineInfo _ => s

/-- The byte lands: the view has write access, `k` lies below its size, and a length of 0 to 32 takes it (R89, R172,
R175). -/
def OpenView.takes (v : OpenView) (k : Nat) (b : Byte) : Prop :=
  match v with
  | .stationCall _ | .requestCall _ => k < 33 ∧ (k = 0 → b.toNat ≤ 32)
  | .safeCall _ => k < 34 ∧ (k = 1 → b.toNat ≤ 32)
  | .sweepBuild _ => k < 145
  | .stationAnswer _ | .stationInfo _ | .requestAnswer _ | .lineInfo _ => False

/-- A list of bytes of which one was perhaps replaced. -/
theorem replaced_where_it_lands {P : Prop} [Decidable P] {written old : List Byte} {k : Nat} {b : Byte}
    (bytes : ∀ j, written[j]? = if j = k ∧ P then some b else old[j]?) :
    (P → written[k]? = some b) ∧ ∀ j, j ≠ k → written[j]? = old[j]? :=
  ⟨fun lands => (bytes k).trans (if_pos ⟨rfl, lands⟩), fun j other => (bytes j).trans (if_neg fun here => other here.1)⟩

section
variable (s : State) (v : OpenView) (k : Nat) (b : Byte)

theorem writePortByte_open {s : State} {v : OpenView} (view : s.port.view = some v) (offset b : Byte) :
    writePortByte offset b s = s.writeView v offset.toNat b := by
  rw [writePortByte, view]
  cases v <;> rfl

theorem writeView_port : (s.writeView v k b).port = s.port := by cases v <;> rfl

theorem writeView_answers :
    (s.writeView v k b).store.answers = s.store.answers
      ∧ (s.writeView v k b).store.requestAnswers = s.store.requestAnswers := by cases v <;> exact ⟨rfl, rfl⟩

/-- The view's own bytes: the one written stands there where it lands, and every other stays. -/
theorem writeView_bytes :
    (v.takes k b → (viewBytes (s.writeView v k b) v)[k]? = some b)
      ∧ ∀ j, j ≠ k → (viewBytes (s.writeView v k b) v)[j]? = (viewBytes s v)[j]? := by
  cases v with
  | stationCall i =>
    refine replaced_where_it_lands (P := k < 33 ∧ (k = 0 → b.toNat ≤ 32)) fun j => ?_
    simp only [State.writeView, viewBytes, callPairAt_setCallPair_self, CallPair.staged_withStaged,
      callBufferBytes_writeByte]
  | requestCall d =>
    refine replaced_where_it_lands (P := k < 33 ∧ (k = 0 → b.toNat ≤ 32)) fun j => ?_
    simp only [State.writeView, viewBytes, requestCallAt_setRequestCall_self, callBufferBytes_writeByte]
  | sweepBuild x =>
    refine replaced_where_it_lands (P := k < 145) fun j => ?_
    simp only [State.writeView, viewBytes, State.setBuild, PerLine.get_set_self, buildBytes_writeByte]
  | safeCall x =>
    refine replaced_where_it_lands (P := k < 34 ∧ (k = 1 → b.toNat ≤ 32)) fun j => ?_
    simp only [State.writeView, viewBytes, State.setSafeCall, PerLine.get_set_self, safeCallBytes_writeByte]
  | stationAnswer | stationInfo | requestAnswer | lineInfo => exact ⟨False.elim, fun _ _ => rfl⟩

variable {s v k b}

theorem writeView_ignored (ignored : ¬ v.takes k b) : s.writeView v k b = s := by
  cases v with
  | stationCall i =>
    rw [State.writeView, CallBuffer.writeByte_ignored ignored, CallPair.withStaged_staged, setCallPair_same]
  | requestCall d => rw [State.writeView, CallBuffer.writeByte_ignored ignored, setRequestCall_same]
  | sweepBuild x => rw [State.writeView, BuildArea.writeByte_ignored ignored, setBuild_same]
  | safeCall x => rw [State.writeView, SafeCallBuffer.writeByte_ignored ignored, setSafeCall_same]
  | stationAnswer | stationInfo | requestAnswer | lineInfo => rfl

/-- The live call data is in no view (R90). -/
theorem writeView_live (i : Fin 32) : ((s.writeView v k b).callPairAt i).live = (s.callPairAt i).live := by
  cases v with
  | stationCall j =>
    rw [State.writeView, callPairAt_setCallPair]
    split
    · next same => rw [CallPair.live_withStaged, same]
    · rfl
  | _ => rfl

/-- No other view shows the byte. -/
theorem writeView_other {w : OpenView} (other : w ≠ v) : viewBytes (s.writeView v k b) w = viewBytes s w := by
  cases v with
  | stationCall i =>
    cases w with
    | stationCall j =>
      have apart : j ≠ i := fun same => other (congrArg _ same)
      rw [State.writeView, viewBytes, viewBytes, callPairAt_setCallPair, if_neg apart]
    | _ => rfl
  | requestCall d =>
    cases w with
    | requestCall e =>
      have apart : e ≠ d := fun same => other (congrArg _ same)
      rw [State.writeView, viewBytes, viewBytes, requestCallAt_setRequestCall, if_neg apart]
    | _ => rfl
  | sweepBuild x =>
    cases w with
    | sweepBuild y =>
      have apart : y ≠ x := fun same => other (congrArg _ same)
      rw [State.writeView, viewBytes, viewBytes, State.setBuild, PerLine.get_set_ne _ _ apart]
    | _ => rfl
  | safeCall x =>
    cases w with
    | safeCall y =>
      have apart : y ≠ x := fun same => other (congrArg _ same)
      rw [State.writeView, viewBytes, viewBytes, State.setSafeCall, PerLine.get_set_ne _ _ apart]
    | _ => rfl
  | stationAnswer | stationInfo | requestAnswer | lineInfo => rfl

end

/-! ### Accesses (R175 to R177) -/

/-- The offset moved on by `n` and the read-ahead emptied (R175, R177). -/
def State.portMoved (s : State) (n : Byte) : State :=
  { s with port := { s.port with offset := s.port.offset + n, readAhead := none } }

section
variable {s : State} {v : OpenView} (data : Word)

theorem portMoved_portMoved (s : State) (m n : Byte) : (s.portMoved m).portMoved n = s.portMoved (m + n) := by
  simp only [State.portMoved, BitVec.add_assoc]

theorem writeView_portMoved (s : State) (v : OpenView) (n : Byte) (k : Nat) (b : Byte) :
    (s.portMoved n).writeView v k b = (s.writeView v k b).portMoved n := by cases v <;> rfl

theorem viewBytes_portMoved (s : State) (n : Byte) (w : OpenView) : viewBytes (s.portMoved n) w = viewBytes s w :=
  viewBytes_congr rfl rfl rfl w

theorem advanceOffset_emptied (view : s.port.view = some v) (lanes : Lanes) :
    { advanceOffset lanes s with port := { (advanceOffset lanes s).port with readAhead := none } } =
      s.portMoved (byteOf (bytesMoved lanes)) := by
  rw [advanceOffset, if_pos (Option.isSome_of_mem view), State.portMoved]

theorem dataWrite_closed (closed : s.port.view = none) (lanes : Lanes) : dataWrite lanes data s = s :=
  if_neg (by simp [closed])

theorem dataWrite_low (view : s.port.view = some v) :
    dataWrite .low data s = (s.writeView v s.port.offset.toNat (loByte data)).portMoved 1 := by
  rw [dataWrite, if_pos (Option.isSome_of_mem view), writePortByte_open view]
  exact advanceOffset_emptied (v := v) (by rw [writeView_port, view]) .low

/-- The high lane moves its byte as the low lane does (R176). -/
theorem dataWrite_high (s : State) : dataWrite .high data s = dataWrite .low (makeWord (hiByte data) 0) s := by
  rw [dataWrite, dataWrite, loByte_makeWord]
  rfl

/-- A word is its low byte and then its high byte, each judged on its own (R175). -/
theorem dataWrite_word (s : State) : dataWrite .word data s = dataWrite .high data (dataWrite .low data s) := by
  cases view : s.port.view with
  | none => rw [dataWrite_closed data view, dataWrite_closed data view, dataWrite_closed data view]
  | some v =>
    have low := dataWrite_low data view
    have port := writeView_port s v s.port.offset.toNat (loByte data)
    have first := writePortByte_open view s.port.offset (loByte data)
    generalize s.writeView v s.port.offset.toNat (loByte data) = t at low port first
    have lowView : t.port.view = some v := by rw [port, view]
    have movedView : (t.portMoved 1).port.view = some v := lowView
    have offset : (t.portMoved 1).port.offset = s.port.offset + 1 := by rw [State.portMoved, port]
    have word : dataWrite .word data s = (t.writeView v (s.port.offset + 1).toNat (hiByte data)).portMoved 2 := by
      rw [dataWrite, if_pos (Option.isSome_of_mem view), first, writePortByte_open lowView]
      exact advanceOffset_emptied (v := v) (by rw [writeView_port, lowView]) .word
    rw [word, low, dataWrite_high, dataWrite_low _ movedView, loByte_makeWord, offset, writeView_portMoved,
      portMoved_portMoved]
    rfl

theorem dataWrite_low_windowOpen (s : State) : windowOpen (dataWrite .low data s) = windowOpen s := by
  cases view : s.port.view with
  | none => rw [dataWrite_closed data view]
  | some v =>
    rw [dataWrite_low data view]
    cases v <;> rfl

end

/-- Settles O53: the byte by where it lands, then the high lane, the word, and no view open. -/
theorem dataWritesLandWhereTheyMay : Obligations.DataWritesLandWhereTheyMay := by
  intro s data opened
  have row (lanes : Lanes) (data : Word) : exec (.dataWrite lanes data) s = .next (dataWrite lanes data s) :=
    next_of_windowOpen opened rfl
  refine ⟨fun v view => ?_, ?_, fun t low => ?_, fun closed lanes => ?_⟩
  · obtain ⟨lands, stays⟩ := writeView_bytes s v s.port.offset.toNat (loByte data)
    refine ⟨_, (row _ _).trans (congrArg _ (dataWrite_low data view)), ?_, fun takes => ?_, fun ignored => ?_,
      fun j other => ?_, fun w other => ?_, writeView_live, writeView_answers s v _ _⟩
    · cases v <;> rfl
    · rw [viewBytes_portMoved]
      refine lands ?_
      cases v <;> exact takes
    · rw [writeView_ignored fun takes => ignored ?_]
      · rfl
      · cases v <;> exact takes
    · rw [viewBytes_portMoved, stays j other]
    · rw [viewBytes_portMoved, writeView_other other]
  · rw [row, row, dataWrite_high]
  · rw [row] at low
    cases low
    rw [row, dataWrite_word]
    exact (next_of_windowOpen ((dataWrite_low_windowOpen data s).trans opened) rfl).symm
  · rw [row, dataWrite_closed data closed]

end Sys2Proof.Machine
end

section
/-! OPEN_VIEW and CLOSE_VIEW (R100, R173, R174), and the snapshots of the INFO views (R178, R190, R192). -/

namespace Sys2Proof.Machine

/-! ### The view a command names (R173, R188) -/

theorem viewOf_badKind {kind : Nat} (bad : kind = 0 ∨ 9 ≤ kind) (index : Nat) : viewOf kind index = .inl 4 := by
  match kind with
  | 0 | n + 9 => rfl
  | 1 | 2 | 3 | 4 | 5 | 6 | 7 | 8 => omega

theorem viewOf_badStation {kind index : Nat} (low : 1 ≤ kind) (high : kind ≤ 3) (bad : 32 ≤ index) :
    viewOf kind index = .inl 1 := by
  have beyond : ¬ index < 32 := Nat.not_lt.2 bad
  obtain rfl | rfl | rfl : kind = 1 ∨ kind = 2 ∨ kind = 3 := by omega
  all_goals exact if_neg beyond

theorem viewOf_badDescriptor {kind index : Nat} (low : 4 ≤ kind) (high : kind ≤ 5) (bad : 16 ≤ index) :
    viewOf kind index = .inl 2 := by
  have beyond : ¬ index < 16 := Nat.not_lt.2 bad
  obtain rfl | rfl : kind = 4 ∨ kind = 5 := by omega
  all_goals exact if_neg beyond

theorem viewOf_badLine {kind index : Nat} (low : 6 ≤ kind) (high : kind ≤ 8) (bad : 2 ≤ index) :
    viewOf kind index = .inl 3 := by
  have beyond : ¬ index < 2 := Nat.not_lt.2 bad
  obtain rfl | rfl | rfl : kind = 6 ∨ kind = 7 ∨ kind = 8 := by omega
  all_goals exact if_neg beyond

theorem byteOf_toNat {n : Nat} (small : n < 256) : (byteOf n).toNat = n := Nat.mod_eq_of_lt small

/-- The codes of a view name it (R188). -/
theorem viewOf_viewCodes (v : OpenView) : viewOf (viewCodes v).1.toNat (viewCodes v).2.toNat = .inr v := by
  cases v with
  | stationCall i | stationAnswer i | stationInfo i =>
    rw [viewCodes, byteOf_toNat (Nat.lt_trans i.isLt (by decide))]
    exact (if_pos i.isLt).trans (by rw [stationOfNat_val])
  | requestCall d | requestAnswer d =>
    rw [viewCodes, byteOf_toNat (Nat.lt_trans d.isLt (by decide))]
    exact (if_pos d.isLt).trans (by rw [descriptorOfNat_val])
  | sweepBuild x | safeCall x | lineInfo x =>
    rw [viewCodes]
    exact (if_pos (lineCode_lt x)).trans (by rw [lineOfNat_lineCode])

/-! ### OPEN_VIEW's checks (R173) -/

/-- A REQ_CALL view opens on a FREE or an OPEN descriptor (R173). -/
theorem viewRefusal_requestCall (s : State) (d : Fin 16) :
    viewRefusal s (.requestCall d) =
      if (s.descriptorAt d).state = .free ∨ (s.descriptorAt d).state = .opened then none else some .wrongState := by
  cases state : (s.descriptorAt d).state <;> simp [viewRefusal, state]

section
variable {p : TakenCommand} {s : State} {v : OpenView}

theorem openView_badParam {detail : Nat} (bad : viewOf (fieldOf p.param0 0 8) (fieldOf p.param0 8 8) = .inl detail) :
    openView p s = refuse s .badParam detail := by
  rw [openView, bad]

theorem openView_refused {result : CommandResult} (kind : loByte p.param0 = (viewCodes v).1)
    (index : hiByte p.param0 = (viewCodes v).2) (refused : viewRefusal s v = some result) :
    openView p s = refuse s result 0 := by
  simp only [openView, fieldOf_low, fieldOf_high, kind, index, viewOf_viewCodes, refused]

theorem openView_opens (kind : loByte p.param0 = (viewCodes v).1) (index : hiByte p.param0 = (viewCodes v).2)
    (free : viewRefusal s v = none) :
    openView p s = { state := openNewView v s, result := .ok, detail := viewSize v } := by
  simp only [openView, fieldOf_low, fieldOf_high, kind, index, viewOf_viewCodes, free]

/-! ### The view closed and opened (R100, R173, R174, R178) -/

theorem closeOpenView_descriptorAt (s : State) (d : Fin 16) : (closeOpenView s).descriptorAt d = s.descriptorAt d := by
  unfold closeOpenView
  split
  · split <;> rfl
  · rfl

/-- The port with no view open (R174). -/
def HostPort.closed (q : HostPort) : HostPort := { q with view := none, offset := 0, readAhead := none, snapshot := [] }

theorem closeOpenView_publishes {i : Fin 32} (view : s.port.view = some (.stationAnswer i))
    (held : (s.stationAt i).publishPending = true) :
    closeOpenView s = { publishAnswer i s with port := s.port.closed } := by
  simp only [closeOpenView, view, if_pos held]
  rfl

theorem closeOpenView_plain
    (quiet : ∀ i, s.port.view = some (.stationAnswer i) → (s.stationAt i).publishPending = false) :
    closeOpenView s = { s with port := s.port.closed } := by
  unfold closeOpenView
  split
  · next i view =>
    rw [if_neg (by simp [quiet i view])]
    rfl
  · rfl

theorem setDescriptor_same (s : State) (d : Fin 16) : s.setDescriptor d (s.descriptorAt d) = s := by
  simp [State.setDescriptor, State.descriptorAt]

/-- A view that may open on a descriptor leaves it OPEN (R110, R173). -/
theorem reserveDescriptor_requestCall {d : Fin 16}
    (unreserved : (s.descriptorAt d).state = .free ∨ (s.descriptorAt d).state = .opened) :
    reserveDescriptor (.requestCall d) s = s.setDescriptor d { s.descriptorAt d with state := .opened } := by
  rw [reserveDescriptor]
  obtain state | state := unreserved
  · exact if_pos state
  · rw [if_neg (by simp [state]), ← state]
    exact (setDescriptor_same s d).symm

/-! ### Snapshots and sizes (R172, R178, R190, R192) -/

/-- A view shows as many bytes as its size. -/
theorem viewBytes_length {u : State} (snapshot : s.port.snapshot = snapshotFor u v) :
    (viewBytes s v).length = viewSize v := by
  cases v with
  | stationCall | stationAnswer | requestCall | requestAnswer | sweepBuild | safeCall =>
    simp [viewBytes, callBufferBytes, answerBytes, requestAnswerBytes, buildBytes, safeCallBytes, wordBytes, viewSize]
  | stationInfo i =>
    rw [viewBytes, snapshot]
    rfl
  | lineInfo x =>
    rw [viewBytes, snapshot]
    change (lineInfoBytes u x).length = 40
    unfold lineInfoBytes
    dsimp only
    cases (u.engineAt x).exchange <;> rfl

end

/-- Settles O51: OPEN_VIEW by the view it names and what refuses it, the snapshots field by field, then CLOSE_VIEW by
the held answer. -/
theorem viewsOpenAndClose : Obligations.ViewsOpenAndClose := by
  intro s p
  refine ⟨fun taken => ⟨fun bad => ?_, fun low high bad => ?_, fun low high bad => ?_, fun low high bad => ?_,
    fun v kind index => ?_⟩, fun i => ?_, fun x => ?_, fun taken => ?_, fun i view held => ?_, fun quiet => ?_⟩
  · exact next_completeCommand taken (openView_badParam (viewOf_badKind bad _))
  · exact next_completeCommand taken (openView_badParam (viewOf_badStation low high bad))
  · exact next_completeCommand taken (openView_badParam (viewOf_badDescriptor low high bad))
  · exact next_completeCommand taken (openView_badParam (viewOf_badLine low high bad))
  · intro refusal closed reserved opened
    have checks : viewRefusal s v = refusal := by
      cases v with
      | requestCall d => exact viewRefusal_requestCall s d
      | _ => rfl
    have reserves (free : refusal = none) : reserveDescriptor v closed = reserved := by
      cases v with
      | requestCall d =>
        refine reserveDescriptor_requestCall ?_
        rw [closeOpenView_descriptorAt]
        by_contra taken
        exact absurd ((if_neg taken).symm.trans free) (by simp)
      | _ => rfl
    refine ⟨fun result refused => ?_, fun free => ?_, viewBytes_length (u := reserved) rfl⟩
    · exact next_completeCommand taken (openView_refused kind index (checks.trans refused))
    · have opens : openNewView v s = opened := by rw [openNewView, reserves free]
      rw [← opens]
      exact next_completeCommand taken (openView_opens kind index (checks.trans free))
  · unfold snapshotFor stationInfoBytes
    dsimp only
    cases (s.stationAt i).lastOutcome <;> cases (s.stationAt i).lastStatus <;> rfl
  · unfold snapshotFor lineInfoBytes
    dsimp only
    cases (s.sweepAt x).shadow <;> cases (s.engineAt x).exchange with
    | none => rfl
    | some e => obtain ⟨kind, _ | station, _ | descriptor⟩ := e <;> rfl
  · refine (next_completeCommand taken rfl).trans ?_
    cases view : s.port.view <;> simp [closeView, view]
  · dsimp only
    rw [closeOpenView_publishes view held]
    refine ⟨?_, ?_, rfl⟩
    · exact (congrArg _ (publishAnswer_answerPairAt i s)).trans (AnswerPair.published_publish _ _)
    · exact (congrArg _ (publishAnswer_answerPairAt i s)).trans (AnswerPair.spare_publish _ _)
  · exact closeOpenView_plain quiet

end Sys2Proof.Machine
end

section

/-! A step on a queue that holds a command. -/

namespace Sys2Proof.Machine

/-- The companion of `step_cases`: the front of the queue says which command the step carries out. -/
theorem step_of_pending_cons {s : State} {c : Instr} {rest : List Instr} (front : s.pending = c :: rest) :
    step s = exec c { s with pending := rest } := by
  unfold step
  rw [front]

/-- Settles O1: the queue's front is the command put there, and the step writes the rest over the queue. -/
theorem stepRunsTheFrontCommand : Obligations.StepRunsTheFrontCommand := by
  intro c rest s
  have front : { s with pending := c :: rest }.pending = c :: rest := rfl
  exact step_of_pending_cons front

end Sys2Proof.Machine
end
